-- ==== Sys2Proof/Word.lean ====
section
/-! DEFINITION. The word types of the machine (00_scope R10, R11) and their plainest arithmetic. -/

namespace Sys2Proof

/-- A byte: the addressable unit and the width of every bus access (20_memory R60, R82). -/
abbrev Byte := BitVec 8

/-- A 16-bit value: addresses, PC, SP and the register pairs (10_state R21 to R23). -/
abbrev Word := BitVec 16

/-- `v[15:8]` (00_scope R10). -/
def hiByte (w : Word) : Byte := w.extractLsb' 8 8

/-- `v[7:0]` (00_scope R10). -/
def loByte (w : Word) : Byte := w.extractLsb' 0 8

/-- `hi ++ lo`, the high byte in the more significant position (00_scope R10). -/
def wordOf (hi lo : Byte) : Word := hi ++ lo

end Sys2Proof
end

