-- ==== Sys2Proof/Config.lean ====
section
/-! DEFINITION. The named parameters of the machine (00_scope R9). A run carries them in `State.cfg`; no step changes them. -/

namespace Sys2Proof

/-- `UNDEF_POLICY`: what the eleven undefined opcodes do (46_cpu_control R295). -/
inductive UndefPolicy
  | nop
  | refuse
  deriving DecidableEq, Repr

/-- `STOP_POLICY`: whether STOP has the meaning of 46_cpu_control R292. -/
inductive StopPolicy
  | asSpecified
  | refuse
  deriving DecidableEq, Repr

/-- `ACCESS_TIMING`: whether the devices advance after the whole instruction or after each M-cycle
(60_exceptions R311, 70_reset R520). -/
inductive AccessTiming
  | instruction
  | mcycle
  deriving DecidableEq, Repr

/-- The parameters of 00_scope R9. The cartridge image and the save blob are arguments of `loadCartridge`.
`initWram` and `initHram` list the bytes of work and high RAM at reset that are not 0x00. -/
structure Config where
  openBus      : Byte
  undefPolicy  : UndefPolicy
  stopPolicy   : StopPolicy
  accessTiming : AccessTiming
  mode3Len     : Nat
  samplePeriod : Nat
  initWram     : List Host.Cell
  initHram     : List Host.Cell
  deriving DecidableEq, Repr

/-- The defaults of 00_scope R9. -/
def Config.default : Config where
  openBus := 0xFF
  undefPolicy := .nop
  stopPolicy := .asSpecified
  accessTiming := .instruction
  mode3Len := 172
  samplePeriod := 95
  initWram := []
  initHram := []

end Sys2Proof
end

