-- ==== Sys2Proof/WellFormed.lean ====
section
/-! DEFINITION. What is an instruction and what are legal parameters. -/

namespace Sys2Proof

/-- Every row is an instruction but PREFIX_CB, which only selects the second table (30_encoding R125; log entry 5). The operand
bytes of a constructor may hold any value, so nothing else is to be checked. -/
def Instr.wellFormed (i : Instr) : Bool := decide (i ≠ .prefixCb)

/-- The ranges 00_scope R9 declares for the two numeric parameters: `MODE3_LEN` in 172..289, `SAMPLE_PERIOD_T` positive. -/
def Config.wellFormed (c : Config) : Bool :=
  decide (172 ≤ c.mode3Len) && decide (c.mode3Len ≤ 289) && decide (0 < c.samplePeriod)

end Sys2Proof
end

