-- ==== Sys2Proof/Decode.lean ====
section
/-! DEFINITION. Decoding (30_encoding R120 to R135), total on any bytes, and the encoder. The decoder follows the fields x, y, z, p, q of
R121 through R132 and R133; the encoder follows the bytes of spec/opcode_table.json. -/

namespace Sys2Proof

/-- `x`, bits 7..6 (R121). -/
def fieldX (op : Byte) : BitVec 2 := op.extractLsb' 6 2

/-- `y`, bits 5..3 (R121). -/
def fieldY (op : Byte) : BitVec 3 := op.extractLsb' 3 3

/-- `z`, bits 2..0 (R121). -/
def fieldZ (op : Byte) : BitVec 3 := op.extractLsb' 0 3

/-- `p`, bits 5..4 (R121). -/
def fieldP (op : Byte) : BitVec 2 := op.extractLsb' 4 2

/-- `q`, bit 3 (R121). -/
def fieldQ (op : Byte) : Bool := op.getLsbD 3

/-- The 8-bit operand `r` (R127). -/
def operand8Of (code : BitVec 3) : Operand8 :=
  match code with
  | 0 => .reg .b | 1 => .reg .c | 2 => .reg .d | 3 => .reg .e | 4 => .reg .h | 5 => .reg .l | 6 => .atHL | _ => .reg .a

/-- The 16-bit operand `rr` (R128). -/
def pairOf (code : BitVec 2) : Pair :=
  match code with
  | 0 => .bc | 1 => .de | 2 => .hl | _ => .sp

/-- The 16-bit operand `rr2` (R129). -/
def stackPairOf (code : BitVec 2) : StackPair :=
  match code with
  | 0 => .bc | 1 => .de | 2 => .hl | _ => .af

/-- The condition `cc` (R130), bits 4..3 of the opcode. -/
def condOf (op : Byte) : Cond :=
  match op.extractLsb' 3 2 with
  | (0 : BitVec 2) => .nz | 1 => .z | 2 => .nc | _ => .c

/-- The ALU operation `ooo` (R131). -/
def aluOpOf (code : BitVec 3) : AluOp :=
  match code with
  | 0 => .add | 1 => .adc | 2 => .sub | 3 => .sbc | 4 => .and | 5 => .xor | 6 => .or | _ => .cp

/-- The rotate or shift operation `ooo` (R131). -/
def shiftOpOf (code : BitVec 3) : ShiftOp :=
  match code with
  | 0 => .rlc | 1 => .rrc | 2 => .rl | 3 => .rr | 4 => .sla | 5 => .sra | 6 => .swap | _ => .srl

/-- What an opcode byte stands for, by the format of its instruction (R121): the whole instruction, an instruction
that needs one operand byte, STOP with its ignored byte, an instruction that needs a 16-bit operand, or the prefix. -/
inductive Entry
  | one (i : Instr)
  | two (f : Byte → Instr)
  | stop
  | three (f : Word → Instr)
  | prefixCb

/-- `LD r[y],r[z]`, and HALT in the place of `LD (HL),(HL)` (R132, x = 1). -/
def loadOf (dst src : Operand8) : Instr :=
  match dst, src with
  | .reg r, .reg r' => .ldRegReg r r'
  | .reg r, .atHL => .ldRegAtHL r
  | .atHL, .reg r => .ldAtHLReg r
  | .atHL, .atHL => .halt

/-- `LD r,n` and `LD (HL),n` (R132, x = 0, z = 6). -/
def loadImmOf (dst : Operand8) : Byte → Instr :=
  match dst with
  | .reg r => .ldRegImm r
  | .atHL => .ld_atHL_n

/-- The part x = 0 of the base table (R132). -/
def lookupX0 (op : Byte) : Entry :=
  match fieldZ op with
  | 0 =>
    match fieldY op with
    | 0 => .one .nop
    | 1 => .three .ld_atNN_sp
    | 2 => .stop
    | 3 => .two .jr_e
    | _ => .two (.jrCond (condOf op))
  | 1 => if fieldQ op then .one (.addHL (pairOf (fieldP op))) else .three (.ldPairImm (pairOf (fieldP op)))
  | 2 =>
    match fieldY op with
    | 0 => .one .ld_atBC_a
    | 1 => .one .ld_a_atBC
    | 2 => .one .ld_atDE_a
    | 3 => .one .ld_a_atDE
    | 4 => .one .ld_atHLinc_a
    | 5 => .one .ld_a_atHLinc
    | 6 => .one .ld_atHLdec_a
    | _ => .one .ld_a_atHLdec
  | 3 => .one (if fieldQ op then .decPair (pairOf (fieldP op)) else .incPair (pairOf (fieldP op)))
  | 4 => .one (.incOperand (operand8Of (fieldY op)))
  | 5 => .one (.decOperand (operand8Of (fieldY op)))
  | 6 => .two (loadImmOf (operand8Of (fieldY op)))
  | _ =>
    match fieldY op with
    | 0 => .one .rlca
    | 1 => .one .rrca
    | 2 => .one .rla
    | 3 => .one .rra
    | 4 => .one .daa
    | 5 => .one .cpl
    | 6 => .one .scf
    | _ => .one .ccf

/-- The part x = 3 of the base table (R132), with the undefined bytes of R134. -/
def lookupX3 (op : Byte) : Entry :=
  match fieldZ op with
  | 0 =>
    match fieldY op with
    | 4 => .two .ldh_atN_a
    | 5 => .two .add_sp_e
    | 6 => .two .ldh_a_atN
    | 7 => .two .ld_hl_sp_e
    | _ => .one (.retCond (condOf op))
  | 1 =>
    if fieldQ op then
      match fieldP op with
      | 0 => .one .ret
      | 1 => .one .reti
      | 2 => .one .jp_hl
      | _ => .one .ld_sp_hl
    else .one (.pop (stackPairOf (fieldP op)))
  | 2 =>
    match fieldY op with
    | 4 => .one .ldh_atC_a
    | 5 => .three .ld_atNN_a
    | 6 => .one .ldh_a_atC
    | 7 => .three .ld_a_atNN
    | _ => .three (.jpCond (condOf op))
  | 3 =>
    match fieldY op with
    | 0 => .three .jp_nn
    | 1 => .prefixCb
    | 2 => .one .undef_d3
    | 3 => .one .undef_db
    | 4 => .one .undef_e3
    | 5 => .one .undef_eb
    | 6 => .one .di
    | _ => .one .ei
  | 4 =>
    match fieldY op with
    | 4 => .one .undef_e4
    | 5 => .one .undef_ec
    | 6 => .one .undef_f4
    | 7 => .one .undef_fc
    | _ => .three (.callCond (condOf op))
  | 5 =>
    if fieldQ op then
      match fieldP op with
      | 0 => .three .call_nn
      | 1 => .one .undef_dd
      | 2 => .one .undef_ed
      | _ => .one .undef_fd
    else .one (.push (stackPairOf (fieldP op)))
  | 6 => .two (.aluImm (aluOpOf (fieldY op)))
  | _ => .one (.rst (fieldY op))

/-- The base table (R132). -/
def lookup (op : Byte) : Entry :=
  match fieldX op with
  | 0 => lookupX0 op
  | 1 => .one (loadOf (operand8Of (fieldY op)) (operand8Of (fieldZ op)))
  | 2 => .one (.alu (aluOpOf (fieldY op)) (operand8Of (fieldZ op)))
  | _ => lookupX3 op

/-- The prefixed table (R133), by the second byte. -/
def lookupCb (op2 : Byte) : Instr :=
  match fieldX op2 with
  | 0 => .shift (shiftOpOf (fieldY op2)) (operand8Of (fieldZ op2))
  | 1 => .bit (fieldY op2) (operand8Of (fieldZ op2))
  | 2 => .res (fieldY op2) (operand8Of (fieldZ op2))
  | _ => .set (fieldY op2) (operand8Of (fieldZ op2))

/-- Why bytes are no instruction: there are none, or the operand bytes that the opcode `op` asks for are missing. -/
inductive DecodeError
  | noBytes
  | missingOperand (op : Byte)
  deriving DecidableEq, Repr

/-- The instruction at the front of the bytes, and the bytes after it. A lone 0xCB is the row PREFIX_CB (log entry 5). -/
def decode : List Byte → Except DecodeError (Instr × List Byte)
  | [] => .error .noBytes
  | op :: rest =>
    match lookup op, rest with
    | .one i, _ => .ok (i, rest)
    | .two f, n :: rest' => .ok (f n, rest')
    | .stop, x :: rest' => .ok (.stop x, rest')
    | .three f, lo :: hi :: rest' => .ok (f (wordOf hi lo), rest')
    | .prefixCb, op2 :: rest' => .ok (lookupCb op2, rest')
    | .prefixCb, [] => .ok (.prefixCb, [])
    | .two _, [] => .error (.missingOperand op)
    | .stop, [] => .error (.missingOperand op)
    | .three _, _ => .error (.missingOperand op)

/-- The length of the instruction that starts with `op`, in bytes (R126). -/
def instrLength (op : Byte) : Nat :=
  match lookup op with
  | .one _ => 1
  | .two _ => 2
  | .stop => 2
  | .three _ => 3
  | .prefixCb => 2

/-- The bytes of an instruction in address order (spec/opcode_table.json: `match`, then the operand bytes, low byte first). -/
def encode (i : Instr) : List Byte :=
  match i with
  | .nop => [0x00] | .ld_bc_nn nn => [0x01, loByte nn, hiByte nn] | .ld_atBC_a => [0x02] | .inc_bc => [0x03]
  | .inc_b => [0x04] | .dec_b => [0x05] | .ld_b_n n => [0x06, n] | .rlca => [0x07]
  | .ld_atNN_sp nn => [0x08, loByte nn, hiByte nn] | .add_hl_bc => [0x09] | .ld_a_atBC => [0x0A]
  | .dec_bc => [0x0B] | .inc_c => [0x0C] | .dec_c => [0x0D] | .ld_c_n n => [0x0E, n] | .rrca => [0x0F]
  | .stop x => [0x10, x] | .ld_de_nn nn => [0x11, loByte nn, hiByte nn] | .ld_atDE_a => [0x12]
  | .inc_de => [0x13] | .inc_d => [0x14] | .dec_d => [0x15] | .ld_d_n n => [0x16, n] | .rla => [0x17]
  | .jr_e e => [0x18, e] | .add_hl_de => [0x19] | .ld_a_atDE => [0x1A] | .dec_de => [0x1B] | .inc_e => [0x1C]
  | .dec_e => [0x1D] | .ld_e_n n => [0x1E, n] | .rra => [0x1F] | .jr_nz_e e => [0x20, e]
  | .ld_hl_nn nn => [0x21, loByte nn, hiByte nn] | .ld_atHLinc_a => [0x22] | .inc_hl => [0x23]
  | .inc_h => [0x24] | .dec_h => [0x25] | .ld_h_n n => [0x26, n] | .daa => [0x27] | .jr_z_e e => [0x28, e]
  | .add_hl_hl => [0x29] | .ld_a_atHLinc => [0x2A] | .dec_hl => [0x2B] | .inc_l => [0x2C] | .dec_l => [0x2D]
  | .ld_l_n n => [0x2E, n] | .cpl => [0x2F] | .jr_nc_e e => [0x30, e]
  | .ld_sp_nn nn => [0x31, loByte nn, hiByte nn] | .ld_atHLdec_a => [0x32] | .inc_sp => [0x33]
  | .inc_atHL => [0x34] | .dec_atHL => [0x35] | .ld_atHL_n n => [0x36, n] | .scf => [0x37]
  | .jr_c_e e => [0x38, e] | .add_hl_sp => [0x39] | .ld_a_atHLdec => [0x3A] | .dec_sp => [0x3B]
  | .inc_a => [0x3C] | .dec_a => [0x3D] | .ld_a_n n => [0x3E, n] | .ccf => [0x3F] | .ld_b_b => [0x40]
  | .ld_b_c => [0x41] | .ld_b_d => [0x42] | .ld_b_e => [0x43] | .ld_b_h => [0x44] | .ld_b_l => [0x45]
  | .ld_b_atHL => [0x46] | .ld_b_a => [0x47] | .ld_c_b => [0x48] | .ld_c_c => [0x49] | .ld_c_d => [0x4A]
  | .ld_c_e => [0x4B] | .ld_c_h => [0x4C] | .ld_c_l => [0x4D] | .ld_c_atHL => [0x4E] | .ld_c_a => [0x4F]
  | .ld_d_b => [0x50] | .ld_d_c => [0x51] | .ld_d_d => [0x52] | .ld_d_e => [0x53] | .ld_d_h => [0x54]
  | .ld_d_l => [0x55] | .ld_d_atHL => [0x56] | .ld_d_a => [0x57] | .ld_e_b => [0x58] | .ld_e_c => [0x59]
  | .ld_e_d => [0x5A] | .ld_e_e => [0x5B] | .ld_e_h => [0x5C] | .ld_e_l => [0x5D] | .ld_e_atHL => [0x5E]
  | .ld_e_a => [0x5F] | .ld_h_b => [0x60] | .ld_h_c => [0x61] | .ld_h_d => [0x62] | .ld_h_e => [0x63]
  | .ld_h_h => [0x64] | .ld_h_l => [0x65] | .ld_h_atHL => [0x66] | .ld_h_a => [0x67] | .ld_l_b => [0x68]
  | .ld_l_c => [0x69] | .ld_l_d => [0x6A] | .ld_l_e => [0x6B] | .ld_l_h => [0x6C] | .ld_l_l => [0x6D]
  | .ld_l_atHL => [0x6E] | .ld_l_a => [0x6F] | .ld_atHL_b => [0x70] | .ld_atHL_c => [0x71]
  | .ld_atHL_d => [0x72] | .ld_atHL_e => [0x73] | .ld_atHL_h => [0x74] | .ld_atHL_l => [0x75] | .halt => [0x76]
  | .ld_atHL_a => [0x77] | .ld_a_b => [0x78] | .ld_a_c => [0x79] | .ld_a_d => [0x7A] | .ld_a_e => [0x7B]
  | .ld_a_h => [0x7C] | .ld_a_l => [0x7D] | .ld_a_atHL => [0x7E] | .ld_a_a => [0x7F] | .add_a_b => [0x80]
  | .add_a_c => [0x81] | .add_a_d => [0x82] | .add_a_e => [0x83] | .add_a_h => [0x84] | .add_a_l => [0x85]
  | .add_a_atHL => [0x86] | .add_a_a => [0x87] | .adc_a_b => [0x88] | .adc_a_c => [0x89] | .adc_a_d => [0x8A]
  | .adc_a_e => [0x8B] | .adc_a_h => [0x8C] | .adc_a_l => [0x8D] | .adc_a_atHL => [0x8E] | .adc_a_a => [0x8F]
  | .sub_b => [0x90] | .sub_c => [0x91] | .sub_d => [0x92] | .sub_e => [0x93] | .sub_h => [0x94]
  | .sub_l => [0x95] | .sub_atHL => [0x96] | .sub_a => [0x97] | .sbc_a_b => [0x98] | .sbc_a_c => [0x99]
  | .sbc_a_d => [0x9A] | .sbc_a_e => [0x9B] | .sbc_a_h => [0x9C] | .sbc_a_l => [0x9D] | .sbc_a_atHL => [0x9E]
  | .sbc_a_a => [0x9F] | .and_b => [0xA0] | .and_c => [0xA1] | .and_d => [0xA2] | .and_e => [0xA3]
  | .and_h => [0xA4] | .and_l => [0xA5] | .and_atHL => [0xA6] | .and_a => [0xA7] | .xor_b => [0xA8]
  | .xor_c => [0xA9] | .xor_d => [0xAA] | .xor_e => [0xAB] | .xor_h => [0xAC] | .xor_l => [0xAD]
  | .xor_atHL => [0xAE] | .xor_a => [0xAF] | .or_b => [0xB0] | .or_c => [0xB1] | .or_d => [0xB2]
  | .or_e => [0xB3] | .or_h => [0xB4] | .or_l => [0xB5] | .or_atHL => [0xB6] | .or_a => [0xB7]
  | .cp_b => [0xB8] | .cp_c => [0xB9] | .cp_d => [0xBA] | .cp_e => [0xBB] | .cp_h => [0xBC] | .cp_l => [0xBD]
  | .cp_atHL => [0xBE] | .cp_a => [0xBF] | .ret_nz => [0xC0] | .pop_bc => [0xC1]
  | .jp_nz_nn nn => [0xC2, loByte nn, hiByte nn] | .jp_nn nn => [0xC3, loByte nn, hiByte nn]
  | .call_nz_nn nn => [0xC4, loByte nn, hiByte nn] | .push_bc => [0xC5] | .add_a_n n => [0xC6, n]
  | .rst_00h => [0xC7] | .ret_z => [0xC8] | .ret => [0xC9] | .jp_z_nn nn => [0xCA, loByte nn, hiByte nn]
  | .prefixCb => [0xCB] | .call_z_nn nn => [0xCC, loByte nn, hiByte nn]
  | .call_nn nn => [0xCD, loByte nn, hiByte nn] | .adc_a_n n => [0xCE, n] | .rst_08h => [0xCF]
  | .ret_nc => [0xD0] | .pop_de => [0xD1] | .jp_nc_nn nn => [0xD2, loByte nn, hiByte nn] | .undef_d3 => [0xD3]
  | .call_nc_nn nn => [0xD4, loByte nn, hiByte nn] | .push_de => [0xD5] | .sub_n n => [0xD6, n]
  | .rst_10h => [0xD7] | .ret_c => [0xD8] | .reti => [0xD9] | .jp_c_nn nn => [0xDA, loByte nn, hiByte nn]
  | .undef_db => [0xDB] | .call_c_nn nn => [0xDC, loByte nn, hiByte nn] | .undef_dd => [0xDD]
  | .sbc_a_n n => [0xDE, n] | .rst_18h => [0xDF] | .ldh_atN_a n => [0xE0, n] | .pop_hl => [0xE1]
  | .ldh_atC_a => [0xE2] | .undef_e3 => [0xE3] | .undef_e4 => [0xE4] | .push_hl => [0xE5]
  | .and_n n => [0xE6, n] | .rst_20h => [0xE7] | .add_sp_e e => [0xE8, e] | .jp_hl => [0xE9]
  | .ld_atNN_a nn => [0xEA, loByte nn, hiByte nn] | .undef_eb => [0xEB] | .undef_ec => [0xEC]
  | .undef_ed => [0xED] | .xor_n n => [0xEE, n] | .rst_28h => [0xEF] | .ldh_a_atN n => [0xF0, n]
  | .pop_af => [0xF1] | .ldh_a_atC => [0xF2] | .di => [0xF3] | .undef_f4 => [0xF4] | .push_af => [0xF5]
  | .or_n n => [0xF6, n] | .rst_30h => [0xF7] | .ld_hl_sp_e e => [0xF8, e] | .ld_sp_hl => [0xF9]
  | .ld_a_atNN nn => [0xFA, loByte nn, hiByte nn] | .ei => [0xFB] | .undef_fc => [0xFC] | .undef_fd => [0xFD]
  | .cp_n n => [0xFE, n] | .rst_38h => [0xFF] | .rlc_b => [0xCB, 0x00] | .rlc_c => [0xCB, 0x01]
  | .rlc_d => [0xCB, 0x02] | .rlc_e => [0xCB, 0x03] | .rlc_h => [0xCB, 0x04] | .rlc_l => [0xCB, 0x05]
  | .rlc_atHL => [0xCB, 0x06] | .rlc_a => [0xCB, 0x07] | .rrc_b => [0xCB, 0x08] | .rrc_c => [0xCB, 0x09]
  | .rrc_d => [0xCB, 0x0A] | .rrc_e => [0xCB, 0x0B] | .rrc_h => [0xCB, 0x0C] | .rrc_l => [0xCB, 0x0D]
  | .rrc_atHL => [0xCB, 0x0E] | .rrc_a => [0xCB, 0x0F] | .rl_b => [0xCB, 0x10] | .rl_c => [0xCB, 0x11]
  | .rl_d => [0xCB, 0x12] | .rl_e => [0xCB, 0x13] | .rl_h => [0xCB, 0x14] | .rl_l => [0xCB, 0x15]
  | .rl_atHL => [0xCB, 0x16] | .rl_a => [0xCB, 0x17] | .rr_b => [0xCB, 0x18] | .rr_c => [0xCB, 0x19]
  | .rr_d => [0xCB, 0x1A] | .rr_e => [0xCB, 0x1B] | .rr_h => [0xCB, 0x1C] | .rr_l => [0xCB, 0x1D]
  | .rr_atHL => [0xCB, 0x1E] | .rr_a => [0xCB, 0x1F] | .sla_b => [0xCB, 0x20] | .sla_c => [0xCB, 0x21]
  | .sla_d => [0xCB, 0x22] | .sla_e => [0xCB, 0x23] | .sla_h => [0xCB, 0x24] | .sla_l => [0xCB, 0x25]
  | .sla_atHL => [0xCB, 0x26] | .sla_a => [0xCB, 0x27] | .sra_b => [0xCB, 0x28] | .sra_c => [0xCB, 0x29]
  | .sra_d => [0xCB, 0x2A] | .sra_e => [0xCB, 0x2B] | .sra_h => [0xCB, 0x2C] | .sra_l => [0xCB, 0x2D]
  | .sra_atHL => [0xCB, 0x2E] | .sra_a => [0xCB, 0x2F] | .swap_b => [0xCB, 0x30] | .swap_c => [0xCB, 0x31]
  | .swap_d => [0xCB, 0x32] | .swap_e => [0xCB, 0x33] | .swap_h => [0xCB, 0x34] | .swap_l => [0xCB, 0x35]
  | .swap_atHL => [0xCB, 0x36] | .swap_a => [0xCB, 0x37] | .srl_b => [0xCB, 0x38] | .srl_c => [0xCB, 0x39]
  | .srl_d => [0xCB, 0x3A] | .srl_e => [0xCB, 0x3B] | .srl_h => [0xCB, 0x3C] | .srl_l => [0xCB, 0x3D]
  | .srl_atHL => [0xCB, 0x3E] | .srl_a => [0xCB, 0x3F] | .bit_0_b => [0xCB, 0x40] | .bit_0_c => [0xCB, 0x41]
  | .bit_0_d => [0xCB, 0x42] | .bit_0_e => [0xCB, 0x43] | .bit_0_h => [0xCB, 0x44] | .bit_0_l => [0xCB, 0x45]
  | .bit_0_atHL => [0xCB, 0x46] | .bit_0_a => [0xCB, 0x47] | .bit_1_b => [0xCB, 0x48]
  | .bit_1_c => [0xCB, 0x49] | .bit_1_d => [0xCB, 0x4A] | .bit_1_e => [0xCB, 0x4B] | .bit_1_h => [0xCB, 0x4C]
  | .bit_1_l => [0xCB, 0x4D] | .bit_1_atHL => [0xCB, 0x4E] | .bit_1_a => [0xCB, 0x4F]
  | .bit_2_b => [0xCB, 0x50] | .bit_2_c => [0xCB, 0x51] | .bit_2_d => [0xCB, 0x52] | .bit_2_e => [0xCB, 0x53]
  | .bit_2_h => [0xCB, 0x54] | .bit_2_l => [0xCB, 0x55] | .bit_2_atHL => [0xCB, 0x56]
  | .bit_2_a => [0xCB, 0x57] | .bit_3_b => [0xCB, 0x58] | .bit_3_c => [0xCB, 0x59] | .bit_3_d => [0xCB, 0x5A]
  | .bit_3_e => [0xCB, 0x5B] | .bit_3_h => [0xCB, 0x5C] | .bit_3_l => [0xCB, 0x5D]
  | .bit_3_atHL => [0xCB, 0x5E] | .bit_3_a => [0xCB, 0x5F] | .bit_4_b => [0xCB, 0x60]
  | .bit_4_c => [0xCB, 0x61] | .bit_4_d => [0xCB, 0x62] | .bit_4_e => [0xCB, 0x63] | .bit_4_h => [0xCB, 0x64]
  | .bit_4_l => [0xCB, 0x65] | .bit_4_atHL => [0xCB, 0x66] | .bit_4_a => [0xCB, 0x67]
  | .bit_5_b => [0xCB, 0x68] | .bit_5_c => [0xCB, 0x69] | .bit_5_d => [0xCB, 0x6A] | .bit_5_e => [0xCB, 0x6B]
  | .bit_5_h => [0xCB, 0x6C] | .bit_5_l => [0xCB, 0x6D] | .bit_5_atHL => [0xCB, 0x6E]
  | .bit_5_a => [0xCB, 0x6F] | .bit_6_b => [0xCB, 0x70] | .bit_6_c => [0xCB, 0x71] | .bit_6_d => [0xCB, 0x72]
  | .bit_6_e => [0xCB, 0x73] | .bit_6_h => [0xCB, 0x74] | .bit_6_l => [0xCB, 0x75]
  | .bit_6_atHL => [0xCB, 0x76] | .bit_6_a => [0xCB, 0x77] | .bit_7_b => [0xCB, 0x78]
  | .bit_7_c => [0xCB, 0x79] | .bit_7_d => [0xCB, 0x7A] | .bit_7_e => [0xCB, 0x7B] | .bit_7_h => [0xCB, 0x7C]
  | .bit_7_l => [0xCB, 0x7D] | .bit_7_atHL => [0xCB, 0x7E] | .bit_7_a => [0xCB, 0x7F]
  | .res_0_b => [0xCB, 0x80] | .res_0_c => [0xCB, 0x81] | .res_0_d => [0xCB, 0x82] | .res_0_e => [0xCB, 0x83]
  | .res_0_h => [0xCB, 0x84] | .res_0_l => [0xCB, 0x85] | .res_0_atHL => [0xCB, 0x86]
  | .res_0_a => [0xCB, 0x87] | .res_1_b => [0xCB, 0x88] | .res_1_c => [0xCB, 0x89] | .res_1_d => [0xCB, 0x8A]
  | .res_1_e => [0xCB, 0x8B] | .res_1_h => [0xCB, 0x8C] | .res_1_l => [0xCB, 0x8D]
  | .res_1_atHL => [0xCB, 0x8E] | .res_1_a => [0xCB, 0x8F] | .res_2_b => [0xCB, 0x90]
  | .res_2_c => [0xCB, 0x91] | .res_2_d => [0xCB, 0x92] | .res_2_e => [0xCB, 0x93] | .res_2_h => [0xCB, 0x94]
  | .res_2_l => [0xCB, 0x95] | .res_2_atHL => [0xCB, 0x96] | .res_2_a => [0xCB, 0x97]
  | .res_3_b => [0xCB, 0x98] | .res_3_c => [0xCB, 0x99] | .res_3_d => [0xCB, 0x9A] | .res_3_e => [0xCB, 0x9B]
  | .res_3_h => [0xCB, 0x9C] | .res_3_l => [0xCB, 0x9D] | .res_3_atHL => [0xCB, 0x9E]
  | .res_3_a => [0xCB, 0x9F] | .res_4_b => [0xCB, 0xA0] | .res_4_c => [0xCB, 0xA1] | .res_4_d => [0xCB, 0xA2]
  | .res_4_e => [0xCB, 0xA3] | .res_4_h => [0xCB, 0xA4] | .res_4_l => [0xCB, 0xA5]
  | .res_4_atHL => [0xCB, 0xA6] | .res_4_a => [0xCB, 0xA7] | .res_5_b => [0xCB, 0xA8]
  | .res_5_c => [0xCB, 0xA9] | .res_5_d => [0xCB, 0xAA] | .res_5_e => [0xCB, 0xAB] | .res_5_h => [0xCB, 0xAC]
  | .res_5_l => [0xCB, 0xAD] | .res_5_atHL => [0xCB, 0xAE] | .res_5_a => [0xCB, 0xAF]
  | .res_6_b => [0xCB, 0xB0] | .res_6_c => [0xCB, 0xB1] | .res_6_d => [0xCB, 0xB2] | .res_6_e => [0xCB, 0xB3]
  | .res_6_h => [0xCB, 0xB4] | .res_6_l => [0xCB, 0xB5] | .res_6_atHL => [0xCB, 0xB6]
  | .res_6_a => [0xCB, 0xB7] | .res_7_b => [0xCB, 0xB8] | .res_7_c => [0xCB, 0xB9] | .res_7_d => [0xCB, 0xBA]
  | .res_7_e => [0xCB, 0xBB] | .res_7_h => [0xCB, 0xBC] | .res_7_l => [0xCB, 0xBD]
  | .res_7_atHL => [0xCB, 0xBE] | .res_7_a => [0xCB, 0xBF] | .set_0_b => [0xCB, 0xC0]
  | .set_0_c => [0xCB, 0xC1] | .set_0_d => [0xCB, 0xC2] | .set_0_e => [0xCB, 0xC3] | .set_0_h => [0xCB, 0xC4]
  | .set_0_l => [0xCB, 0xC5] | .set_0_atHL => [0xCB, 0xC6] | .set_0_a => [0xCB, 0xC7]
  | .set_1_b => [0xCB, 0xC8] | .set_1_c => [0xCB, 0xC9] | .set_1_d => [0xCB, 0xCA] | .set_1_e => [0xCB, 0xCB]
  | .set_1_h => [0xCB, 0xCC] | .set_1_l => [0xCB, 0xCD] | .set_1_atHL => [0xCB, 0xCE]
  | .set_1_a => [0xCB, 0xCF] | .set_2_b => [0xCB, 0xD0] | .set_2_c => [0xCB, 0xD1] | .set_2_d => [0xCB, 0xD2]
  | .set_2_e => [0xCB, 0xD3] | .set_2_h => [0xCB, 0xD4] | .set_2_l => [0xCB, 0xD5]
  | .set_2_atHL => [0xCB, 0xD6] | .set_2_a => [0xCB, 0xD7] | .set_3_b => [0xCB, 0xD8]
  | .set_3_c => [0xCB, 0xD9] | .set_3_d => [0xCB, 0xDA] | .set_3_e => [0xCB, 0xDB] | .set_3_h => [0xCB, 0xDC]
  | .set_3_l => [0xCB, 0xDD] | .set_3_atHL => [0xCB, 0xDE] | .set_3_a => [0xCB, 0xDF]
  | .set_4_b => [0xCB, 0xE0] | .set_4_c => [0xCB, 0xE1] | .set_4_d => [0xCB, 0xE2] | .set_4_e => [0xCB, 0xE3]
  | .set_4_h => [0xCB, 0xE4] | .set_4_l => [0xCB, 0xE5] | .set_4_atHL => [0xCB, 0xE6]
  | .set_4_a => [0xCB, 0xE7] | .set_5_b => [0xCB, 0xE8] | .set_5_c => [0xCB, 0xE9] | .set_5_d => [0xCB, 0xEA]
  | .set_5_e => [0xCB, 0xEB] | .set_5_h => [0xCB, 0xEC] | .set_5_l => [0xCB, 0xED]
  | .set_5_atHL => [0xCB, 0xEE] | .set_5_a => [0xCB, 0xEF] | .set_6_b => [0xCB, 0xF0]
  | .set_6_c => [0xCB, 0xF1] | .set_6_d => [0xCB, 0xF2] | .set_6_e => [0xCB, 0xF3] | .set_6_h => [0xCB, 0xF4]
  | .set_6_l => [0xCB, 0xF5] | .set_6_atHL => [0xCB, 0xF6] | .set_6_a => [0xCB, 0xF7]
  | .set_7_b => [0xCB, 0xF8] | .set_7_c => [0xCB, 0xF9] | .set_7_d => [0xCB, 0xFA] | .set_7_e => [0xCB, 0xFB]
  | .set_7_h => [0xCB, 0xFC] | .set_7_l => [0xCB, 0xFD] | .set_7_atHL => [0xCB, 0xFE]
  | .set_7_a => [0xCB, 0xFF]

/-- The bytes of a table word in address order, padded with 0x00 to the longest instruction. The table numbers a prefixed row's word
with 0xCB in its upper byte (R126); any other word has its first byte lowest (log entry 6). -/
def tableBytes (nbits w : Nat) : List Byte :=
  if nbits = 16 ∧ w / 256 % 256 = 0xCB then [0xCB, BitVec.ofNat 8 w, 0]
  else [BitVec.ofNat 8 w, BitVec.ofNat 8 (w / 256), BitVec.ofNat 8 (w / 65536)]

/-- The instruction the decoder reads from a word of spec/opcode_table.json; the table's one-byte row 0xCB is the prefix
alone (log entries 5 and 6). -/
def decodeTableWord (nbits w : Nat) : Option Instr :=
  let bytes := if nbits = 8 ∧ w % 256 = 0xCB then [0xCB] else tableBytes nbits w
  match decode bytes with
  | .ok (i, _) => some i
  | .error _ => none

end Sys2Proof
end

