-- ==== Sys2Proof/Machine/State.lean ====
section
/-! DEFINITION. The complete state of the machine (10_state R45) as plain data, its value after reset, and the reasons a
step can stop. The names in quotation marks are the spec's. -/

namespace Sys2Proof.Machine

/-- A memory: the (offset, byte) cells that are not 0x00, offsets strictly rising (Machine/Memory.lean; log entry 3). -/
abbrev Memory := List Host.Cell

/-- A shade 0..3 (61_ppu R403). -/
abbrev Shade := BitVec 2

/-- A frame: 144 rows of 160 shades, row 0 at the top, column 0 at the left (61_ppu R405). -/
abbrev Frame := Vector (Vector Shade 160) 144

/-- A stereo sample (left, right) of two signed 16-bit numbers (62_apu R471). -/
abbrev Sample := BitVec 16 × BitVec 16

/-- The CPU: the eight 8-bit registers (10_state R20, R24), PC (R22), SP (R23) and the control state (R26 to R30). -/
structure Cpu where
  a : Byte
  f : Byte
  b : Byte
  c : Byte
  d : Byte
  e : Byte
  h : Byte
  l : Byte
  sp : Word
  pc : Word
  ime : Bool
  eiPending : Bool
  halted : Bool
  haltBug : Bool
  stopped : Bool
  deriving DecidableEq, Repr

/-- The interrupt controller: IE (10_state R31) and the five stored bits of IF (R32). -/
structure Interrupts where
  ie : Byte
  flags : BitVec 5
  deriving DecidableEq, Repr

/-- The timer (10_state R33): `div16`, TIMA, TMA, TAC[2:0], `last_sig` and `reload_in`. -/
structure Timer where
  div16 : Word
  tima : Byte
  tma : Byte
  tac : BitVec 3
  lastSig : Bool
  reloadIn : Option Nat
  deriving DecidableEq, Repr

/-- The joypad port (10_state R38): `p1_sel` is P1[5:4]. -/
structure Joypad where
  p1Sel : BitVec 2
  buttons : Byte
  p1Prev : BitVec 4
  deriving DecidableEq, Repr

/-- The serial registers (10_state R39): SB and the two stored bits of SC. -/
structure Serial where
  sb : Byte
  sc7 : Bool
  sc0 : Bool
  deriving DecidableEq, Repr

/-- The PPU modes (61_ppu R360). -/
inductive PpuMode
  | hblank
  | vblank
  | oamScan
  | transfer
  deriving DecidableEq, Repr

/-- The PPU: its registers (61_ppu R362 to R373), its internal state (R361), VRAM and OAM (10_state R42).
`statMask` is STAT[6:3]. -/
structure Ppu where
  lcdc : Byte
  statMask : BitVec 4
  scy : Byte
  scx : Byte
  ly : Nat
  lyc : Byte
  dma : Byte
  bgp : Byte
  obp0 : Byte
  obp1 : Byte
  wy : Byte
  wx : Byte
  mode : PpuMode
  dot : Nat
  statLine : Bool
  windowLine : Nat
  work : Frame
  front : Frame
  frameReady : Bool
  vram : Memory
  oam : Memory
  deriving DecidableEq, Repr

/-- A volume envelope: the fields of NRx2 (62_apu R424), the direction and period in force, which are those of the last trigger (R424, log
entry 19), `chN_vol` and `chN_env_timer` (R421). -/
structure Envelope where
  init : BitVec 4
  dir : Bool
  period : BitVec 3
  runDir : Bool
  runPeriod : BitVec 3
  vol : BitVec 4
  timer : Nat
  deriving DecidableEq, Repr

/-- The frequency sweep of channel 1: the fields of NR10 (62_apu R422) and the `sweep_` state of R421. -/
structure Sweep where
  period : BitVec 3
  negate : Bool
  shift : BitVec 3
  shadow : BitVec 11
  timer : Nat
  enabled : Bool
  deriving DecidableEq, Repr

/-- A pulse channel (62_apu R423 to R430 and R421). -/
structure Pulse where
  on : Bool
  duty : BitVec 2
  len : Nat
  lenEn : Bool
  env : Envelope
  freq : BitVec 11
  timer : Nat
  pos : BitVec 3
  deriving DecidableEq, Repr

/-- The wave channel (62_apu R431 to R435, R440 and R421). -/
structure Wave where
  on : Bool
  dac : Bool
  len : Nat
  lenEn : Bool
  level : BitVec 2
  freq : BitVec 11
  timer : Nat
  pos : BitVec 5
  wave : Memory
  deriving DecidableEq, Repr

/-- The noise channel (62_apu R436 to R439 and R421). -/
structure Noise where
  on : Bool
  len : Nat
  lenEn : Bool
  env : Envelope
  shift : BitVec 4
  width : Bool
  div : BitVec 3
  timer : Nat
  lfsr : BitVec 15
  deriving DecidableEq, Repr

/-- The APU (62_apu R421, R441, R442). `queue` has the oldest sample first (R480). -/
structure Apu where
  on : Bool
  fsCounter : Nat
  fsStep : BitVec 3
  sampleCounter : Nat
  queue : List Sample
  nr50 : Byte
  nr51 : Byte
  sweep : Sweep
  ch1 : Pulse
  ch2 : Pulse
  ch3 : Wave
  ch4 : Noise
  deriving DecidableEq, Repr

/-- The cartridge controllers in scope (20_memory R104). -/
inductive CartKind
  | none
  | mbc1
  deriving DecidableEq, Repr

/-- The bank-select registers of MBC1 (10_state R43). -/
structure Mbc where
  ramEnable : Bool
  romBankLo : BitVec 5
  bankHi : BitVec 2
  mode : Bool
  deriving DecidableEq, Repr

/-- The cartridge (10_state R43, 20_memory R100 to R103): the declared sizes in bytes, the image, the cartridge RAM and the
controller's registers. A cartridge without a controller never uses `mbc` (log entry 13). -/
structure Cartridge where
  kind : CartKind
  battery : Bool
  romSize : Nat
  ramSize : Nat
  rom : Memory
  ram : Memory
  mbc : Mbc
  deriving DecidableEq, Repr

/-- The complete state (10_state R45), the parameters of the step relation (00_scope R9, log entry 1), and `cycles`, the model's own
field: the T-cycles the last step returned (60_exceptions R310, log entry 4). -/
structure State where
  cfg : Config
  cpu : Cpu
  ints : Interrupts
  timer : Timer
  joypad : Joypad
  serial : Serial
  ppu : Ppu
  apu : Apu
  cart : Cartridge
  wram : Memory
  hram : Memory
  cycles : Nat
  deriving DecidableEq, Repr

/-- There is no fault: no instruction, operand, address or register state makes the machine stop (60_exceptions R312). -/
inductive Fault
  deriving DecidableEq, Repr

/-- The reasons a step is refused. -/
inductive Refusal
  /-- An instruction without a meaning, raised by its arm in Machine/Dispatch.lean; safe. No arm raises it. -/
  | notModelled (mnemonic : String)
  /-- An undefined opcode under `UNDEF_POLICY = refuse`, raised by the meanings of the eleven undefined bytes (46_cpu_control R295); safe. -/
  | undefinedOpcode (op : Byte)
  /-- STOP under `STOP_POLICY = refuse`, raised by its meaning (46_cpu_control R292); safe. -/
  | stopOpcode
  deriving DecidableEq, Repr

/-- The registers after reset (10_state R48). -/
def Cpu.reset : Cpu where
  a := 0x01
  f := 0xB0
  b := 0x00
  c := 0x13
  d := 0x00
  e := 0xD8
  h := 0x01
  l := 0x4D
  sp := 0xFFFE
  pc := 0x0100
  ime := false
  eiPending := false
  halted := false
  haltBug := false
  stopped := false

/-- The interrupt controller after reset (R48). -/
def Interrupts.reset : Interrupts where
  ie := 0x00
  flags := 0b00001

/-- The timer after reset (R33). -/
def Timer.reset : Timer where
  div16 := 0xABCC
  tima := 0x00
  tma := 0x00
  tac := 0
  lastSig := false
  reloadIn := none

/-- The joypad after reset (R38). -/
def Joypad.reset : Joypad where
  p1Sel := 0b00
  buttons := 0x00
  p1Prev := 0b1111

/-- The serial registers after reset (R39). -/
def Serial.reset : Serial where
  sb := 0x00
  sc7 := false
  sc0 := false

/-- A frame of shade 0 (61_ppu R361). -/
def Frame.blank : Frame := Vector.replicate 144 (Vector.replicate 160 0)

/-- The PPU after reset (10_state R40, 61_ppu R361). -/
def Ppu.reset : Ppu where
  lcdc := 0x91
  statMask := 0
  scy := 0x00
  scx := 0x00
  ly := 0
  lyc := 0x00
  dma := 0xFF
  bgp := 0xFC
  obp0 := 0xFF
  obp1 := 0xFF
  wy := 0x00
  wx := 0x00
  mode := .oamScan
  dot := 0
  statLine := false
  windowLine := 0
  work := Frame.blank
  front := Frame.blank
  frameReady := false
  vram := []
  oam := []

/-- The APU after reset (62_apu R421 to R443, R446). -/
def Apu.reset : Apu where
  on := true
  fsCounter := 0
  fsStep := 0
  sampleCounter := 0
  queue := []
  nr50 := 0x77
  nr51 := 0xF3
  sweep := { period := 0, negate := false, shift := 0, shadow := 0x7C1, timer := 8, enabled := false }
  ch1 :=
    { on := true, duty := 2, len := 64, lenEn := false
      env := { init := 15, dir := false, period := 3, runDir := false, runPeriod := 3, vol := 0, timer := 3 }
      freq := 0x7C1, timer := 252, pos := 0 }
  ch2 :=
    { on := false, duty := 0, len := 64, lenEn := false
      env := { init := 0, dir := false, period := 0, runDir := false, runPeriod := 0, vol := 0, timer := 8 }
      freq := 0, timer := 8192, pos := 0 }
  ch3 :=
    { on := false, dac := false, len := 256, lenEn := false, level := 0, freq := 0, timer := 4096, pos := 0, wave := [] }
  ch4 :=
    { on := false, len := 64, lenEn := false
      env := { init := 0, dir := false, period := 0, runDir := false, runPeriod := 0, vol := 0, timer := 8 }
      shift := 0, width := false, div := 0, timer := 8, lfsr := 0x7FFF }

/-- The bank-select registers after reset (20_memory R106). -/
def Mbc.reset : Mbc where
  ramEnable := false
  romBankLo := 1
  bankHi := 0
  mode := false

/-- The cartridge of the model's reset state: 32 KiB of zeros without a controller (DESIGN CHOICE, log entry 2). -/
def Cartridge.blank : Cartridge where
  kind := .none
  battery := false
  romSize := 32768
  ramSize := 0
  rom := []
  ram := []
  mbc := Mbc.reset

/-- The machine right after a successful `load_cartridge` of this cartridge under these parameters (70_reset R490, R501). -/
def State.powerOn (cfg : Config) (cart : Cartridge) : State where
  cfg := cfg
  cpu := Cpu.reset
  ints := Interrupts.reset
  timer := Timer.reset
  joypad := Joypad.reset
  serial := Serial.reset
  ppu := Ppu.reset
  apu := Apu.reset
  cart := cart
  wram := cfg.initWram
  hram := cfg.initHram
  cycles := 0

/-- The machine right after reset (10_state R48), with the default parameters and the blank cartridge (log entry 2). -/
def State.reset : State := State.powerOn Config.default Cartridge.blank

end Sys2Proof.Machine
end

