-- ==== Sys2Proof/Machine/Memory.lean ====
section
/-! DEFINITION. The byte arrays of 10_state R42 as lists of cells in one canonical form: offsets strictly rising, no cell equal to 0x00,
which is what an unlisted offset reads as (log entry 3). -/

namespace Sys2Proof.Machine

/-- The byte at an offset. -/
def Memory.read : Memory → Nat → Byte
  | [], _ => 0
  | (k, b) :: m, a => if k = a then b else Memory.read m a

/-- The cells without those at an offset. -/
def Memory.erase (m : Memory) (a : Nat) : Memory := m.filter fun cell => decide (cell.1 ≠ a)

/-- A cell put at its place in the order. -/
def Memory.insert : Memory → Nat → Byte → Memory
  | [], a, v => [(a, v)]
  | (k, b) :: m, a, v => if a < k then (a, v) :: (k, b) :: m else (k, b) :: Memory.insert m a v

/-- A byte stored at an offset; storing 0x00 removes the cell. -/
def Memory.write (m : Memory) (a : Nat) (v : Byte) : Memory :=
  if v = 0 then m.erase a else (m.erase a).insert a v

/-- The canonical form from an offset on. -/
def Memory.wfFrom : Nat → Memory → Bool
  | _, [] => true
  | lo, (k, b) :: m => decide (lo ≤ k) && decide (b ≠ 0) && Memory.wfFrom (k + 1) m

/-- The canonical form: offsets strictly rising, no 0x00 listed. -/
def Memory.wf (m : Memory) : Bool := m.wfFrom 0

/-- Every listed offset lies inside an array of `size` bytes. -/
def Memory.below (m : Memory) (size : Nat) : Bool := m.all fun cell => decide (cell.1 < size)

/-- The array whose bytes from offset `start` on are these. -/
def Memory.ofBytes : List Byte → Nat → Memory
  | [], _ => []
  | b :: bs, start => if b = 0 then Memory.ofBytes bs (start + 1) else (start, b) :: Memory.ofBytes bs (start + 1)

/-- The first `size` bytes of the array. -/
def Memory.toBytes (m : Memory) (size : Nat) : List Byte := (List.range size).map m.read

end Sys2Proof.Machine
end

