-- ==== Sys2Proof/Machine/Apu.lean ====
section
/-! DEFINITION. The clocking, the channels and the mixer of the APU (62_apu R450 to R472). -/

namespace Sys2Proof.Machine

/-- `length_clock()` for one channel: the counter (62_apu R452). -/
def lenAfterClock (en : Bool) (len : Nat) : Nat := if en then len - 1 else len

/-- `length_clock()` for one channel: the running flag. The channel is switched off when this clock brings the counter to 0
(R452; DEDUCED, log entry 8). -/
def onAfterLenClock (en : Bool) (len : Nat) (on : Bool) : Bool := if en && decide (len = 1) then false else on

/-- `env_clock(N)` (R453), by the direction and period of the last trigger (R424; DEDUCED, log entry 19). -/
def Envelope.clock (e : Envelope) : Envelope :=
  if e.runPeriod = 0 then e
  else if e.timer - 1 = 0 then
    { e with
      timer := e.runPeriod.toNat
      vol := if e.runDir then (if e.vol.toNat < 15 then e.vol + 1 else e.vol) else (if 0 < e.vol.toNat then e.vol - 1 else e.vol) }
  else { e with timer := e.timer - 1 }

/-- The envelope at a trigger (R465): the values of NRx2 take effect (R424). -/
def Envelope.trigger (e : Envelope) : Envelope :=
  { e with
    runDir := e.dir
    runPeriod := e.period
    vol := e.init
    timer := if e.period = 0 then 8 else e.period.toNat }

/-- The DAC of a channel with an envelope: NRx2[7:3] is not 0 (R466). -/
def Envelope.dacOn (e : Envelope) : Bool := decide (e.init ≠ 0) || e.dir

/-- The next frequency `nf` of `sweep_calc()` (R455). -/
def Sweep.next (w : Sweep) : Nat :=
  let d := w.shadow.toNat >>> w.shift.toNat
  if w.negate then w.shadow.toNat - d else w.shadow.toNat + d

/-- Whether `sweep_calc()` leaves channel 1 running: `nf` is at most 2047 (R455). -/
def Sweep.fits (w : Sweep) : Bool := decide (w.next ≤ 2047)

/-- The reload value of the sweep countdown (R454, R465). -/
def Sweep.reload (w : Sweep) : Nat := if w.period = 0 then 8 else w.period.toNat

/-- `sweep_clock()` (R454) on the sweep unit and channel 1. -/
def sweepClock (w : Sweep) (ch : Pulse) : Sweep × Pulse :=
  if w.timer - 1 = 0 then
    let w1 := { w with timer := w.reload }
    if w.enabled && decide (w.period ≠ 0) then
      if w1.fits && decide (w.shift ≠ 0) then
        let w2 := { w1 with shadow := BitVec.ofNat 11 w1.next }
        (w2, { ch with freq := BitVec.ofNat 11 w1.next, on := ch.on && w2.fits })
      else (w1, { ch with on := ch.on && w1.fits })
    else (w1, ch)
  else ({ w with timer := w.timer - 1 }, ch)

/-- The length clock of a pulse channel (R452). -/
def Pulse.lenClock (c : Pulse) : Pulse :=
  { c with len := lenAfterClock c.lenEn c.len, on := onAfterLenClock c.lenEn c.len c.on }

/-- The length clock of the wave channel (R452). -/
def Wave.lenClock (c : Wave) : Wave :=
  { c with len := lenAfterClock c.lenEn c.len, on := onAfterLenClock c.lenEn c.len c.on }

/-- The length clock of the noise channel (R452). -/
def Noise.lenClock (c : Noise) : Noise :=
  { c with len := lenAfterClock c.lenEn c.len, on := onAfterLenClock c.lenEn c.len c.on }

/-- `length_clock()` (R452). -/
def Apu.lengthClock (u : Apu) : Apu :=
  { u with ch1 := u.ch1.lenClock, ch2 := u.ch2.lenClock, ch3 := u.ch3.lenClock, ch4 := u.ch4.lenClock }

/-- `sweep_clock()` (R454). -/
def Apu.sweepClock (u : Apu) : Apu :=
  { u with sweep := (Sys2Proof.Machine.sweepClock u.sweep u.ch1).1, ch1 := (Sys2Proof.Machine.sweepClock u.sweep u.ch1).2 }

/-- `env_clock(N)` for N = 1, 2, 4 (R453). -/
def Apu.envClock (u : Apu) : Apu :=
  { u with
    ch1 := { u.ch1 with env := u.ch1.env.clock }
    ch2 := { u.ch2 with env := u.ch2.env.clock }
    ch4 := { u.ch4 with env := u.ch4.env.clock } }

/-- `fs_clock(s)` (R451). -/
def Apu.fsClock (u : Apu) (s : BitVec 3) : Apu :=
  match s with
  | 0 => u.lengthClock
  | 2 => u.lengthClock.sweepClock
  | 4 => u.lengthClock
  | 6 => u.lengthClock.sweepClock
  | 7 => u.envClock
  | _ => u

/-- The period of a pulse channel in T-cycles (R460). -/
def Pulse.periodT (c : Pulse) : Nat := (2048 - c.freq.toNat) * 4

/-- `pulse_tick(N)` (R460). -/
def Pulse.tick (c : Pulse) : Pulse :=
  if c.timer - 1 = 0 then { c with timer := c.periodT, pos := c.pos + 1 } else { c with timer := c.timer - 1 }

/-- The duty patterns (R460): bit `pos` of the row. -/
def dutyPattern (d : BitVec 2) : Byte :=
  match d with
  | 0 => 0b10000000
  | 1 => 0b10000001
  | 2 => 0b11100001
  | _ => 0b01111110

/-- `duty_bit(d, pos)` (R460). -/
def dutyBit (d : BitVec 2) (pos : BitVec 3) : Bool := (dutyPattern d).getLsbD pos.toNat

/-- The period of the wave channel in T-cycles (R461). -/
def Wave.periodT (c : Wave) : Nat := (2048 - c.freq.toNat) * 2

/-- `wave_tick()` (R461). -/
def Wave.tick (c : Wave) : Wave :=
  if c.timer - 1 = 0 then { c with timer := c.periodT, pos := c.pos + 1 } else { c with timer := c.timer - 1 }

/-- The 4-bit sample at the current position, high nibble first (R440, R461). -/
def Wave.sample (c : Wave) : Nat :=
  let byte := c.wave.read (c.pos.toNat / 2)
  if c.pos.toNat % 2 = 0 then byte.toNat / 16 else byte.toNat % 16

/-- The right shift of `ch3_level` (R433). -/
def Wave.levelShift (c : Wave) : Nat :=
  match c.level with
  | 0 => 4
  | 1 => 0
  | 2 => 1
  | _ => 2

/-- `noise_period` in T-cycles (R462). -/
def Noise.periodT (c : Noise) : Nat := (if c.div = 0 then 8 else 16 * c.div.toNat) <<< c.shift.toNat

/-- The step of the noise shift register (R462). -/
def Noise.shiftLfsr (c : Noise) : BitVec 15 :=
  let x := c.lfsr.getLsbD 0 ^^ c.lfsr.getLsbD 1
  let wide := BitVec.ofBool x ++ c.lfsr.extractLsb' 1 14
  if c.width then wide.extractLsb' 7 8 ++ BitVec.ofBool x ++ wide.extractLsb' 0 6 else wide

/-- `noise_tick()` (R462). -/
def Noise.tick (c : Noise) : Noise :=
  if c.timer - 1 = 0 then { c with timer := c.periodT, lfsr := c.shiftLfsr } else { c with timer := c.timer - 1 }

/-- `out(N)` of a pulse channel (R460, R470). -/
def Pulse.output (apuOn : Bool) (c : Pulse) : Nat :=
  if apuOn && c.on && c.env.dacOn && dutyBit c.duty c.pos then c.env.vol.toNat else 0

/-- `out(3)` (R461, R470). -/
def Wave.output (apuOn : Bool) (c : Wave) : Nat := if apuOn && c.on && c.dac then c.sample >>> c.levelShift else 0

/-- `out(4)` (R462, R470). -/
def Noise.output (apuOn : Bool) (c : Noise) : Nat :=
  if apuOn && c.on && c.env.dacOn && !c.lfsr.getLsbD 0 then c.env.vol.toNat else 0

/-- The sum of the channels that NR51 sends to one side, the bit of channel 1 being `low` (R442, R471). -/
def Apu.sideSum (u : Apu) (low : Nat) : Nat :=
  (if u.nr51.getLsbD low then u.ch1.output u.on else 0) +
  (if u.nr51.getLsbD (low + 1) then u.ch2.output u.on else 0) +
  (if u.nr51.getLsbD (low + 2) then u.ch3.output u.on else 0) +
  (if u.nr51.getLsbD (low + 3) then u.ch4.output u.on else 0)

/-- `mix()` (R471): the left sample, then the right one. -/
def Apu.mix (u : Apu) : Sample :=
  (BitVec.ofNat 16 (64 * ((u.nr50.extractLsb' 4 3).toNat + 1) * u.sideSum 4),
   BitVec.ofNat 16 (64 * ((u.nr50.extractLsb' 0 3).toNat + 1) * u.sideSum 0))

/-- The frame-sequencer part of `apu_tick()` (R450). -/
def Apu.sequence (u : Apu) : Apu :=
  if u.fsCounter + 1 = 8192 then { u.fsClock u.fsStep with fsCounter := 0, fsStep := u.fsStep + 1 }
  else { u with fsCounter := u.fsCounter + 1 }

/-- The channel part of `apu_tick()` (R450). -/
def Apu.channels (u : Apu) : Apu :=
  { u with ch1 := u.ch1.tick, ch2 := u.ch2.tick, ch3 := u.ch3.tick, ch4 := u.ch4.tick }

/-- The sample part of `apu_tick()` (R450, R472). -/
def Apu.sampling (samplePeriod : Nat) (u : Apu) : Apu :=
  if u.sampleCounter + 1 = samplePeriod then { u with sampleCounter := 0, queue := u.queue ++ [u.mix] }
  else { u with sampleCounter := u.sampleCounter + 1 }

/-- `apu_tick()` (R450). -/
def Apu.tick (samplePeriod : Nat) (u : Apu) : Apu :=
  (if u.on then u.sequence.channels else u).sampling samplePeriod

end Sys2Proof.Machine
end

