-- ==== Sys2Proof/Machine/ApuRegs.lean ====
section
/-! DEFINITION. The registers of the APU (62_apu R422 to R445), the channel triggers and the DACs (R465, R466). -/

namespace Sys2Proof.Machine

/-- The registers NR10 to NR52 (62_apu R422 to R443). -/
inductive ApuReg
  | nr10 | nr11 | nr12 | nr13 | nr14
  | nr21 | nr22 | nr23 | nr24
  | nr30 | nr31 | nr32 | nr33 | nr34
  | nr41 | nr42 | nr43 | nr44
  | nr50 | nr51 | nr52
  deriving DecidableEq, Repr

/-- The read masks (R445). -/
def ApuReg.mask : ApuReg → Byte
  | .nr10 => 0x80 | .nr11 => 0x3F | .nr12 => 0x00 | .nr13 => 0xFF | .nr14 => 0xBF
  | .nr21 => 0x3F | .nr22 => 0x00 | .nr23 => 0xFF | .nr24 => 0xBF
  | .nr30 => 0x7F | .nr31 => 0xFF | .nr32 => 0x9F | .nr33 => 0xFF | .nr34 => 0xBF
  | .nr41 => 0xFF | .nr42 => 0x00 | .nr43 => 0x00 | .nr44 => 0xBF
  | .nr50 => 0x00 | .nr51 => 0x00 | .nr52 => 0x70

/-- NRx2 as stored (R424). -/
def Envelope.toByte (e : Envelope) : Byte := e.init ++ BitVec.ofBool e.dir ++ e.period

/-- A length-enable bit in its place, bit 6 of NRx4 (R426). -/
def lenEnByte (en : Bool) : Byte := (0 : BitVec 1) ++ BitVec.ofBool en ++ (0 : BitVec 6)

/-- The stored readable bits of a register in their places (R422 to R443). -/
def Apu.stored (u : Apu) : ApuReg → Byte
  | .nr10 => (0 : BitVec 1) ++ u.sweep.period ++ BitVec.ofBool u.sweep.negate ++ u.sweep.shift
  | .nr11 => u.ch1.duty ++ (0 : BitVec 6)
  | .nr12 => u.ch1.env.toByte
  | .nr13 => 0
  | .nr14 => lenEnByte u.ch1.lenEn
  | .nr21 => u.ch2.duty ++ (0 : BitVec 6)
  | .nr22 => u.ch2.env.toByte
  | .nr23 => 0
  | .nr24 => lenEnByte u.ch2.lenEn
  | .nr30 => BitVec.ofBool u.ch3.dac ++ (0 : BitVec 7)
  | .nr31 => 0
  | .nr32 => (0 : BitVec 1) ++ u.ch3.level ++ (0 : BitVec 5)
  | .nr33 => 0
  | .nr34 => lenEnByte u.ch3.lenEn
  | .nr41 => 0
  | .nr42 => u.ch4.env.toByte
  | .nr43 => u.ch4.shift ++ BitVec.ofBool u.ch4.width ++ u.ch4.div
  | .nr44 => lenEnByte u.ch4.lenEn
  | .nr50 => u.nr50
  | .nr51 => u.nr51
  | .nr52 =>
    BitVec.ofBool u.on ++ (0 : BitVec 3) ++ BitVec.ofBool u.ch4.on ++ BitVec.ofBool u.ch3.on ++ BitVec.ofBool u.ch2.on ++
      BitVec.ofBool u.ch1.on

/-- The read value of a register (R445); NR10 to NR51 read as if all their fields were 0 while the APU is off (R444). -/
def Apu.readReg (u : Apu) (r : ApuReg) : Byte := (if u.on || decide (r = .nr52) then u.stored r else 0) ||| r.mask

/-- NRx2 stored (R424); the volume, the countdown and what is in force stay until the next trigger. -/
def Envelope.store (e : Envelope) (v : Byte) : Envelope :=
  { e with init := v.extractLsb' 4 4, dir := v.getLsbD 3, period := v.extractLsb' 0 3 }

/-- `freq[7:0]` stored (R425). -/
def storeFreqLow (f : BitVec 11) (v : Byte) : BitVec 11 := f.extractLsb' 8 3 ++ v

/-- `freq[10:8]` stored (R426). -/
def storeFreqHigh (f : BitVec 11) (v : Byte) : BitVec 11 := v.extractLsb' 0 3 ++ f.extractLsb' 0 8

/-- The length counter at a trigger (R465). -/
def triggerLen (full len : Nat) : Nat := if len = 0 then full else len

/-- `trigger(N)` for a pulse channel (R465, R466), without the sweep part. -/
def Pulse.trigger (c : Pulse) : Pulse :=
  { c with on := c.env.dacOn, len := triggerLen 64 c.len, timer := c.periodT, env := c.env.trigger }

/-- `trigger(3)` (R465, R466). -/
def Wave.trigger (c : Wave) : Wave :=
  { c with on := c.dac, len := triggerLen 256 c.len, timer := c.periodT, pos := 0 }

/-- `trigger(4)` (R465, R466). -/
def Noise.trigger (c : Noise) : Noise :=
  { c with on := c.env.dacOn, len := triggerLen 64 c.len, timer := c.periodT, lfsr := 0x7FFF, env := c.env.trigger }

/-- The sweep unit at `trigger(1)`, channel 1's frequency given (R465). -/
def Sweep.trigger (w : Sweep) (freq : BitVec 11) : Sweep :=
  { w with shadow := freq, timer := w.reload, enabled := decide (w.period ≠ 0) || decide (w.shift ≠ 0) }

/-- `trigger(1)` (R465): the first `sweep_calc()` may switch the channel off at once. -/
def Apu.trigger1 (u : Apu) : Apu :=
  let w := u.sweep.trigger u.ch1.freq
  let c := u.ch1.trigger
  { u with sweep := w, ch1 := { c with on := c.on && (decide (w.shift = 0) || w.fits) } }

/-- NRx4 of a pulse channel stored, before a trigger (R426). -/
def Pulse.storeControl (c : Pulse) (v : Byte) : Pulse :=
  { c with lenEn := v.getLsbD 6, freq := storeFreqHigh c.freq v }

/-- NRx2 of a pulse channel stored; the channel stops when the DAC goes off (R424, R466). -/
def Pulse.storeEnvelope (c : Pulse) (v : Byte) : Pulse :=
  { c with env := c.env.store v, on := c.on && (c.env.store v).dacOn }

/-- NR42 stored (R437, R466). -/
def Noise.storeEnvelope (c : Noise) (v : Byte) : Noise :=
  { c with env := c.env.store v, on := c.on && (c.env.store v).dacOn }

/-- NRx1 of a pulse channel stored (R423). -/
def Pulse.storeLength (c : Pulse) (v : Byte) : Pulse :=
  { c with duty := v.extractLsb' 6 2, len := 64 - (v.extractLsb' 0 6).toNat }

/-- NR34 stored, before a trigger (R435). -/
def Wave.storeControl (c : Wave) (v : Byte) : Wave :=
  { c with lenEn := v.getLsbD 6, freq := storeFreqHigh c.freq v }

/-- A write of NR10 to NR51 while the APU is on (R422 to R442); NR52 is `Apu.writeReg`'s. -/
def Apu.storeReg (u : Apu) (r : ApuReg) (v : Byte) : Apu :=
  match r with
  | .nr10 =>
    { u with sweep := { u.sweep with period := v.extractLsb' 4 3, negate := v.getLsbD 3, shift := v.extractLsb' 0 3 } }
  | .nr11 => { u with ch1 := u.ch1.storeLength v }
  | .nr12 => { u with ch1 := u.ch1.storeEnvelope v }
  | .nr13 => { u with ch1 := { u.ch1 with freq := storeFreqLow u.ch1.freq v } }
  | .nr14 =>
    let u' := { u with ch1 := u.ch1.storeControl v }
    if v.getLsbD 7 then u'.trigger1 else u'
  | .nr21 => { u with ch2 := u.ch2.storeLength v }
  | .nr22 => { u with ch2 := u.ch2.storeEnvelope v }
  | .nr23 => { u with ch2 := { u.ch2 with freq := storeFreqLow u.ch2.freq v } }
  | .nr24 =>
    let c := u.ch2.storeControl v
    { u with ch2 := if v.getLsbD 7 then c.trigger else c }
  | .nr30 => { u with ch3 := { u.ch3 with dac := v.getLsbD 7, on := u.ch3.on && v.getLsbD 7 } }
  | .nr31 => { u with ch3 := { u.ch3 with len := 256 - v.toNat } }
  | .nr32 => { u with ch3 := { u.ch3 with level := v.extractLsb' 5 2 } }
  | .nr33 => { u with ch3 := { u.ch3 with freq := storeFreqLow u.ch3.freq v } }
  | .nr34 =>
    let c := u.ch3.storeControl v
    { u with ch3 := if v.getLsbD 7 then c.trigger else c }
  | .nr41 => { u with ch4 := { u.ch4 with len := 64 - (v.extractLsb' 0 6).toNat } }
  | .nr42 => { u with ch4 := u.ch4.storeEnvelope v }
  | .nr43 =>
    { u with ch4 := { u.ch4 with shift := v.extractLsb' 4 4, width := v.getLsbD 3, div := v.extractLsb' 0 3 } }
  | .nr44 =>
    let c := { u.ch4 with lenEn := v.getLsbD 6 }
    { u with ch4 := if v.getLsbD 7 then c.trigger else c }
  | .nr50 => { u with nr50 := v }
  | .nr51 => { u with nr51 := v }
  | .nr52 => u

/-- The envelope after power-off: the fields of NRx2, those in force and the volume become 0 (R444); the countdown stays (log entry 12). -/
def Envelope.powerOff (e : Envelope) : Envelope :=
  { e with init := 0, dir := false, period := 0, runDir := false, runPeriod := 0, vol := 0 }

/-- A pulse channel after power-off (R444); the countdown and the position stay (log entry 12). -/
def Pulse.powerOff (c : Pulse) : Pulse :=
  { c with on := false, duty := 0, len := 0, lenEn := false, env := c.env.powerOff, freq := 0 }

/-- The wave channel after power-off (R444); wave RAM stays (R440). -/
def Wave.powerOff (c : Wave) : Wave :=
  { c with on := false, dac := false, len := 0, lenEn := false, level := 0, freq := 0 }

/-- The noise channel after power-off (R444). -/
def Noise.powerOff (c : Noise) : Noise :=
  { c with on := false, len := 0, lenEn := false, env := c.env.powerOff, shift := 0, width := false, div := 0 }

/-- Power-off: a write of NR52 with bit 7 = 0 while on (R444). -/
def Apu.powerOff (u : Apu) : Apu :=
  { u with
    on := false
    nr50 := 0
    nr51 := 0
    sweep := { u.sweep with period := 0, negate := false, shift := 0 }
    ch1 := u.ch1.powerOff
    ch2 := u.ch2.powerOff
    ch3 := u.ch3.powerOff
    ch4 := u.ch4.powerOff }

/-- Power-on: a write of NR52 with bit 7 = 1 while off (R444). -/
def Apu.powerOn (u : Apu) : Apu :=
  { u with
    on := true
    fsCounter := 0
    fsStep := 0
    ch1 := { u.ch1 with pos := 0 }
    ch2 := { u.ch2 with pos := 0 }
    ch3 := { u.ch3 with pos := 0 } }

/-- A write of NR10 to NR52 (R443, R444): while the APU is off only NR52 is written. -/
def Apu.writeReg (u : Apu) (r : ApuReg) (v : Byte) : Apu :=
  if r = .nr52 then
    if v.getLsbD 7 = u.on then u else if v.getLsbD 7 then u.powerOn else u.powerOff
  else if u.on then u.storeReg r v
  else u

/-- A write of wave RAM byte `k` (R440). -/
def Apu.writeWave (u : Apu) (k : Nat) (v : Byte) : Apu := { u with ch3 := { u.ch3 with wave := u.ch3.wave.write k v } }

end Sys2Proof.Machine
end

