-- ==== Sys2Proof/Machine/Cartridge.lean ====
section
/-! DEFINITION. The cartridge and its controllers (20_memory R100 to R109). -/

namespace Sys2Proof.Machine

/-- The number of 16 KiB banks of the declared ROM (R102). -/
def Cartridge.romBanks (c : Cartridge) : Nat := c.romSize / 0x4000

/-- The number of 8 KiB banks of the RAM, at least 1 (R108). -/
def Cartridge.ramBanks (c : Cartridge) : Nat := max 1 (c.ramSize / 0x2000)

/-- The offset into the image that an address 0x0000..0x7FFF reaches (R105, R107, R109). -/
def Cartridge.romOffset (c : Cartridge) (a : Nat) : Nat :=
  match c.kind with
  | .none => a % c.romSize
  | .mbc1 =>
    if a < 0x4000 then a
    else (c.mbc.bankHi.toNat * 32 + c.mbc.romBankLo.toNat) % c.romBanks * 0x4000 + (a - 0x4000)

/-- A read at 0x0000..0x7FFF (R64). -/
def Cartridge.readRom (c : Cartridge) (a : Nat) : Byte := c.rom.read (c.romOffset a)

/-- A write to 0x0000..0x7FFF of MBC1 (R106). -/
def Mbc.write (m : Mbc) (a : Nat) (v : Byte) : Mbc :=
  if a < 0x2000 then { m with ramEnable := decide (v.extractLsb' 0 4 = 0xA#4) }
  else if a < 0x4000 then
    { m with romBankLo := if v.extractLsb' 0 5 = 0#5 then 1 else v.extractLsb' 0 5 }
  else if a < 0x6000 then { m with bankHi := v.extractLsb' 0 2 }
  else { m with mode := v.getLsbD 0 }

/-- A write to 0x0000..0x7FFF (R64): delivered to MBC1, dropped without a controller (R105). -/
def Cartridge.writeRom (c : Cartridge) (a : Nat) (v : Byte) : Cartridge :=
  { c with mbc := match c.kind with | .none => c.mbc | .mbc1 => c.mbc.write a v }

/-- Whether 0xA000..0xBFFF reaches RAM (R105, R108). -/
def Cartridge.ramOpen (c : Cartridge) : Bool :=
  match c.kind with
  | .none => false
  | .mbc1 => decide (c.ramSize ≠ 0) && c.mbc.ramEnable

/-- The offset into the RAM that an address 0xA000..0xBFFF reaches (R108). -/
def Cartridge.ramOffset (c : Cartridge) (a : Nat) : Nat :=
  ((if c.mbc.mode then c.mbc.bankHi.toNat else 0) % c.ramBanks * 0x2000 + (a - 0xA000)) % c.ramSize

/-- A read at 0xA000..0xBFFF (R66). -/
def Cartridge.readRam (c : Cartridge) (openBus : Byte) (a : Nat) : Byte :=
  if c.ramOpen then c.ram.read (c.ramOffset a) else openBus

/-- A write at 0xA000..0xBFFF (R66). -/
def Cartridge.writeRam (c : Cartridge) (a : Nat) (v : Byte) : Cartridge :=
  { c with ram := if c.ramOpen then c.ram.write (c.ramOffset a) v else c.ram }

end Sys2Proof.Machine
end

