-- ==== Sys2Proof/Machine/Interrupts.lean ====
section
/-! DEFINITION. The interrupt controller (60_exceptions R320 to R325). -/

namespace Sys2Proof.Machine

/-- The five sources (60_exceptions R320), by their bit in IE and IF. -/
inductive Source
  | vblank
  | stat
  | timer
  | serial
  | joypad
  deriving DecidableEq, Repr

/-- The bit `k` of a source in IE and IF (R320). -/
def Source.index : Source → Nat
  | .vblank => 0
  | .stat => 1
  | .timer => 2
  | .serial => 3
  | .joypad => 4

/-- The vector address, `0x0040 + 8*k` (R320, R326). -/
def Source.vector (k : Source) : Word := 0x0040 + BitVec.ofNat 16 (8 * k.index)

/-- IF with the bit of a source set (R322). -/
def setFlag (flags : BitVec 5) (k : Source) : BitVec 5 := flags ||| BitVec.twoPow 5 k.index

/-- IF with the bit of a source cleared (R324). -/
def clearFlag (flags : BitVec 5) (k : Source) : BitVec 5 := flags &&& ~~~ BitVec.twoPow 5 k.index

/-- `request(k)` when `on`, nothing otherwise (R322). -/
def Interrupts.requestIf (i : Interrupts) (on : Bool) (k : Source) : Interrupts :=
  { i with flags := if on then setFlag i.flags k else i.flags }

/-- `acknowledge(k)` (R324). -/
def Interrupts.acknowledge (i : Interrupts) (k : Source) : Interrupts := { i with flags := clearFlag i.flags k }

/-- `pend = IE & IF & 0x1F` (R323). -/
def Interrupts.pend (i : Interrupts) : BitVec 5 := i.ie.extractLsb' 0 5 &&& i.flags

/-- `pending()`: the lowest set bit of `pend`, `none` when it is 0 (R323, R325). -/
def Interrupts.pending (i : Interrupts) : Option Source :=
  if i.pend.getLsbD 0 then some .vblank
  else if i.pend.getLsbD 1 then some .stat
  else if i.pend.getLsbD 2 then some .timer
  else if i.pend.getLsbD 3 then some .serial
  else if i.pend.getLsbD 4 then some .joypad
  else none

/-- The read value of IF (10_state R32). -/
def Interrupts.readIf (i : Interrupts) : Byte := (0b111 : BitVec 3) ++ i.flags

/-- A write of IF (10_state R32). -/
def Interrupts.writeIf (i : Interrupts) (v : Byte) : Interrupts := { i with flags := v.extractLsb' 0 5 }

end Sys2Proof.Machine
end

