-- ==== Sys2Proof/Machine/Joypad.lean ====
section
/-! DEFINITION. The joypad port (60_exceptions R350 to R352, 10_state R38) and the serial registers (R39, 60_exceptions R355). -/

namespace Sys2Proof.Machine

/-- `lines()`: the four input lines, active low (60_exceptions R351). P1[4] is bit 0 of `p1Sel`, P1[5] bit 1. -/
def Joypad.lines (j : Joypad) : BitVec 4 :=
  (if j.p1Sel.getLsbD 0 then 0b1111 else ~~~ j.buttons.extractLsb' 0 4) &&&
  (if j.p1Sel.getLsbD 1 then 0b1111 else ~~~ j.buttons.extractLsb' 4 4)

/-- The read value of P1 (R351). -/
def Joypad.readP1 (j : Joypad) : Byte := (0b11 : BitVec 2) ++ j.p1Sel ++ j.lines

/-- Whether some line went from 1 to 0 (R352). -/
def Joypad.falls (j : Joypad) : Bool := decide (j.p1Prev &&& ~~~ j.lines ≠ 0)

/-- The lines remembered by `joypad_edge_check()` (R352). -/
def Joypad.latch (j : Joypad) : Joypad := { j with p1Prev := j.lines }

/-- The read value of SC (10_state R39): bits 6..1 read as 1. -/
def Serial.readSc (s : Serial) : Byte := BitVec.ofBool s.sc7 ++ (0b111111 : BitVec 6) ++ BitVec.ofBool s.sc0

/-- A write of SC stores bits 7 and 0 and starts nothing (60_exceptions R355). -/
def Serial.writeSc (s : Serial) (v : Byte) : Serial := { s with sc7 := v.getLsbD 7, sc0 := v.getLsbD 0 }

end Sys2Proof.Machine
end

