-- ==== Sys2Proof/Machine/Render.lean ====
section
/-! DEFINITION. The picture output of the PPU, one scanline at a time (61_ppu R395 to R404). -/

namespace Sys2Proof.Machine

/-- A VRAM byte by its bus address (61_ppu R395, R399). -/
def Ppu.vramAt (p : Ppu) (a : Nat) : Byte := p.vram.read (a - 0x8000)

/-- `tile_addr` of the unsigned method (R396). -/
def tileAddrUnsigned (n : Byte) : Nat := 0x8000 + 16 * n.toNat

/-- `tile_addr` of the signed method (R396). -/
def tileAddrSigned (n : Byte) : Nat := (0x9000 + 16 * n.toInt).toNat

/-- `tile_addr` of the background and the window, by LCDC[4] (R396). -/
def Ppu.tileAddr (p : Ppu) (n : Byte) : Nat := if p.lcdc.getLsbD 4 then tileAddrUnsigned n else tileAddrSigned n

/-- The colour number of bit `b` in the two bytes of a tile row at `a` (R396). -/
def Ppu.colourAt (p : Ppu) (a b : Nat) : BitVec 2 :=
  BitVec.ofBool ((p.vramAt (a + 1)).getLsbD b) ++ BitVec.ofBool ((p.vramAt a).getLsbD b)

/-- The first address of a tile map (R397). -/
def mapBase (second : Bool) : Nat := if second then 0x9C00 else 0x9800

/-- The colour of pixel (col, row) of the tile map at `base` (R396, R397). -/
def Ppu.mapColour (p : Ppu) (base col row : Nat) : BitVec 2 :=
  p.colourAt (p.tileAddr (p.vramAt (base + 32 * (row / 8) + col / 8)) + 2 * (row % 8)) (7 - col % 8)

/-- `bg_colour(x, y)` (R399). -/
def Ppu.bgColour (p : Ppu) (x y : Nat) : BitVec 2 :=
  p.mapColour (mapBase (p.lcdc.getLsbD 3)) ((x + p.scx.toNat) % 256) ((y + p.scy.toNat) % 256)

/-- Whether the window is active on line `y` (R400). -/
def Ppu.windowActive (p : Ppu) (y : Nat) : Bool :=
  p.lcdc.getLsbD 5 && p.lcdc.getLsbD 0 && decide (p.wy.toNat ≤ y) && decide (p.wx.toNat ≤ 166)

/-- `win_colour(x)` (R400). -/
def Ppu.winColour (p : Ppu) (x : Nat) : BitVec 2 :=
  p.mapColour (mapBase (p.lcdc.getLsbD 6)) (x + 7 - p.wx.toNat) p.windowLine

/-- An OAM entry (R398). -/
structure Sprite where
  y : Nat
  x : Nat
  tile : Byte
  attr : Byte
  deriving DecidableEq, Repr

/-- OAM entry `i` (R398). -/
def Ppu.sprite (p : Ppu) (i : Nat) : Sprite where
  y := (p.oam.read (4 * i)).toNat
  x := (p.oam.read (4 * i + 1)).toNat
  tile := p.oam.read (4 * i + 2)
  attr := p.oam.read (4 * i + 3)

/-- The sprite height by LCDC[2] (R362, R401). -/
def Ppu.spriteHeight (p : Ppu) : Nat := if p.lcdc.getLsbD 2 then 16 else 8

/-- The sprites selected for line `y`, in OAM order, at most 10 (R401). -/
def Ppu.selectSprites (p : Ppu) (y : Nat) : List Sprite :=
  if p.lcdc.getLsbD 1 then
    (((List.range 40).map p.sprite).filter fun s => decide (s.y ≤ y + 16) && decide (y + 16 < s.y + p.spriteHeight)).take 10
  else []

/-- The row of the sprite shown on line `y` (R402). -/
def Ppu.spriteRow (p : Ppu) (s : Sprite) (y : Nat) : Nat :=
  let r := y + 16 - s.y
  if s.attr.getLsbD 6 then p.spriteHeight - 1 - r else r

/-- The tile that holds row `r` of the sprite (R402). -/
def Ppu.spriteTile (p : Ppu) (s : Sprite) (r : Nat) : Nat :=
  if p.lcdc.getLsbD 2 then (s.tile &&& 0xFE).toNat + r / 8 else s.tile.toNat

/-- `spr_colour(entry, x, y)` (R402); `none` where the sprite does not cover the column. -/
def Ppu.spriteColour (p : Ppu) (s : Sprite) (x y : Nat) : Option (BitVec 2) :=
  if s.x ≤ x + 8 ∧ x + 8 < s.x + 8 then
    let r := p.spriteRow s y
    let c := x + 8 - s.x
    let b := if s.attr.getLsbD 5 then c else 7 - c
    some (p.colourAt (0x8000 + 16 * p.spriteTile s r + 2 * (r % 8)) b)
  else none

/-- The winning sprite at (x, y) with its colour: the smallest X among the opaque ones, the first in OAM order among equal X (R402). -/
def Ppu.winner (p : Ppu) (x y : Nat) : List Sprite → Option (Sprite × BitVec 2)
  | [] => none
  | s :: rest =>
    match p.spriteColour s x y, p.winner x y rest with
    | none, w => w
    | some c, none => if c = 0 then none else some (s, c)
    | some c, some w => if c = 0 then some w else if w.1.x < s.x then some w else some (s, c)

/-- The shade a palette gives a colour number (R370, R371). -/
def paletteShade (palette : Byte) (c : BitVec 2) : Shade := palette.extractLsb' (2 * c.toNat) 2

/-- The background or window colour at (x, y) (R404). -/
def Ppu.backColour (p : Ppu) (x y : Nat) : BitVec 2 :=
  if p.lcdc.getLsbD 0 then
    if p.windowActive y && decide (p.wx.toNat ≤ x + 7) then p.winColour x else p.bgColour x y
  else 0

/-- The shade at (x, y), given the sprites selected for the line (R404). -/
def Ppu.pixel (p : Ppu) (sel : List Sprite) (x y : Nat) : Shade :=
  let c := p.backColour x y
  let back := if p.lcdc.getLsbD 0 then paletteShade p.bgp c else 0
  match p.winner x y sel with
  | none => back
  | some (s, sc) =>
    if s.attr.getLsbD 7 && decide (c ≠ 0) then back
    else paletteShade (if s.attr.getLsbD 4 then p.obp1 else p.obp0) sc

/-- The row of shades of line `y` (R404). -/
def Ppu.row (p : Ppu) (y : Nat) : Vector Shade 160 :=
  let sel := p.selectSprites y
  Vector.ofFn fun x => p.pixel sel x.val y

/-- `render_line(y)` (R404). -/
def Ppu.renderLine (p : Ppu) (y : Nat) : Ppu :=
  { p with
    work := p.work.setIfInBounds y (p.row y)
    windowLine := if p.windowActive y then p.windowLine + 1 else p.windowLine }

end Sys2Proof.Machine
end

