-- ==== Sys2Proof/Machine/Ppu.lean ====
section
/-! DEFINITION. The timing, the STAT interrupt and the registers of the PPU (61_ppu R362 to R390). -/

namespace Sys2Proof.Machine

/-- The number STAT[1:0] reports for a mode (61_ppu R360). -/
def PpuMode.number : PpuMode → BitVec 2
  | .hblank => 0
  | .vblank => 1
  | .oamScan => 2
  | .transfer => 3

/-- LCDC[7] (R362). -/
def Ppu.lcdOn (p : Ppu) : Bool := p.lcdc.getLsbD 7

/-- `ly = LYC` (R364). -/
def Ppu.coincidence (p : Ppu) : Bool := decide (p.ly = p.lyc.toNat)

/-- The combined STAT interrupt signal (R390). -/
def Ppu.statSignal (p : Ppu) : Bool :=
  p.lcdOn &&
    ((p.statMask.getLsbD 3 && p.coincidence) ||
     (p.statMask.getLsbD 2 && decide (p.mode = .oamScan)) ||
     (p.statMask.getLsbD 1 && decide (p.mode = .vblank)) ||
     (p.statMask.getLsbD 0 && decide (p.mode = .hblank)))

/-- Whether `stat_update()` requests the LCD status interrupt: the signal rises (R390). -/
def Ppu.statRises (p : Ppu) : Bool := !p.statLine && p.statSignal

/-- `stat_update()` (R390), without its request: `Ppu.statRises` of the state before says when that is made. -/
def Ppu.statUpdate (p : Ppu) : Ppu := { p with statLine := p.statSignal }

/-- The start of line `ly + 1` (R375): the frame wrap, V-blank with the publication of the frame (R380, R405), or OAM-scan. -/
def Ppu.nextLine (p : Ppu) : Ppu :=
  let ly' := if p.ly + 1 = 154 then 0 else p.ly + 1
  { p with
    dot := 0
    ly := ly'
    windowLine := if p.ly + 1 = 154 then 0 else p.windowLine
    mode := if ly' = 144 then .vblank else if ly' < 144 then .oamScan else p.mode
    front := if ly' = 144 then p.work else p.front
    frameReady := if ly' = 144 then true else p.frameReady }

/-- The next dot within a line (R375). -/
def Ppu.nextDot (mode3Len : Nat) (p : Ppu) : Ppu :=
  let p' := { p with dot := p.dot + 1 }
  if p.ly < 144 then
    if p.dot + 1 = 80 then { p' with mode := .transfer }
    else if p.dot + 1 = 80 + mode3Len then { p'.renderLine p.ly with mode := .hblank }
    else p'
  else p'

/-- One dot with the LCD on, before its `stat_update()` (R375). -/
def Ppu.moveDot (mode3Len : Nat) (p : Ppu) : Ppu := if p.dot + 1 = 456 then p.nextLine else p.nextDot mode3Len

/-- `ppu_tick()` (R375), without its interrupt requests: `Ppu.tickVblank` and `Ppu.tickStat` say when those are made. -/
def Ppu.tick (mode3Len : Nat) (p : Ppu) : Ppu := if p.lcdOn then (p.moveDot mode3Len).statUpdate else p

/-- Whether this tick requests VBlank: `ly` becomes 144 (R380). -/
def Ppu.tickVblank (p : Ppu) : Bool := p.lcdOn && decide (p.dot + 1 = 456) && decide (p.ly + 1 = 144)

/-- Whether this tick requests the LCD status interrupt (R375, R390). -/
def Ppu.tickStat (mode3Len : Nat) (p : Ppu) : Bool := p.lcdOn && (p.moveDot mode3Len).statRises

/-- Whether the CPU reaches VRAM (20_memory R65, 61_ppu R383). -/
def Ppu.vramOpen (p : Ppu) : Bool := !(p.lcdOn && decide (p.mode = .transfer))

/-- Whether the CPU reaches OAM (20_memory R69, 61_ppu R383). -/
def Ppu.oamOpen (p : Ppu) : Bool := !(p.lcdOn && (decide (p.mode = .oamScan) || decide (p.mode = .transfer)))

/-- The read value of STAT (R364). -/
def Ppu.readStat (p : Ppu) : Byte :=
  (1 : BitVec 1) ++ p.statMask ++ BitVec.ofBool p.coincidence ++ p.mode.number

/-- The read value of LY (R367). -/
def Ppu.readLy (p : Ppu) : Byte := BitVec.ofNat 8 p.ly

/-- LCDC stored, and the LCD switched off or on when bit 7 changes (R363), before `stat_update()`. -/
def Ppu.storeLcdc (p : Ppu) (v : Byte) : Ppu :=
  if v.getLsbD 7 = p.lcdOn then { p with lcdc := v }
  else { p with lcdc := v, ly := 0, dot := 0, mode := if v.getLsbD 7 then .oamScan else .hblank, windowLine := 0 }

/-- STAT stored (R364), before `stat_update()`. -/
def Ppu.storeStat (p : Ppu) (v : Byte) : Ppu := { p with statMask := v.extractLsb' 3 4 }

/-- LYC stored (R368), before `stat_update()`. -/
def Ppu.storeLyc (p : Ppu) (v : Byte) : Ppu := { p with lyc := v }

/-- A CPU write at VRAM offset `k` (20_memory R65). -/
def Ppu.writeVram (p : Ppu) (k : Nat) (v : Byte) : Ppu :=
  { p with vram := if p.vramOpen then p.vram.write k v else p.vram }

/-- A CPU write at OAM offset `k` (20_memory R69). -/
def Ppu.writeOam (p : Ppu) (k : Nat) (v : Byte) : Ppu := { p with oam := if p.oamOpen then p.oam.write k v else p.oam }

/-- A CPU read at VRAM offset `k` (20_memory R65). -/
def Ppu.readVram (p : Ppu) (openBus : Byte) (k : Nat) : Byte := if p.vramOpen then p.vram.read k else openBus

/-- A CPU read at OAM offset `k` (20_memory R69). -/
def Ppu.readOam (p : Ppu) (openBus : Byte) (k : Nat) : Byte := if p.oamOpen then p.oam.read k else openBus

end Sys2Proof.Machine
end

