-- ==== Sys2Proof/Machine/Timer.lean ====
section
/-! DEFINITION. The timer (60_exceptions R330 to R335, registers 10_state R34 to R37). -/

namespace Sys2Proof.Machine

/-- `sel_bit`: the divider bit that feeds the edge detector (60_exceptions R331, 10_state R37). -/
def timerSelBit (cs : BitVec 2) : Nat :=
  match cs with
  | 0 => 9
  | 1 => 3
  | 2 => 5
  | _ => 7

/-- The input of the edge detector: enable AND selected divider bit (R331). -/
def Timer.signal (t : Timer) : Bool := t.tac.getLsbD 2 && t.div16.getLsbD (timerSelBit (t.tac.extractLsb' 0 2))

/-- `tima_increment()` (R331): a wrap starts the delayed reload. -/
def Timer.increment (t : Timer) : Timer :=
  { t with
    tima := t.tima + 1
    reloadIn := if t.tima = 0xFF then some 4 else t.reloadIn }

/-- `edge_check()` (R331). -/
def Timer.edgeCheck (t : Timer) : Timer :=
  if t.lastSig && !t.signal then { t.increment with lastSig := t.signal } else { t with lastSig := t.signal }

/-- Whether this tick ends the reload delay (R330, R333). -/
def Timer.reloads (t : Timer) : Bool :=
  match t.reloadIn with
  | none => false
  | some n => decide (n ≤ 1)

/-- The reload countdown of one tick (R330, R333). -/
def Timer.countReload (t : Timer) : Timer :=
  match t.reloadIn with
  | none => t
  | some n => if n ≤ 1 then { t with tima := t.tma, reloadIn := none } else { t with reloadIn := some (n - 1) }

/-- `timer_tick()` (R330), without its interrupt request: `Timer.reloads` says when that is made. -/
def Timer.tick (t : Timer) : Timer :=
  let t' := t.countReload
  { t' with div16 := t'.div16 + 1 }.edgeCheck

/-- The read value of DIV (10_state R34). -/
def Timer.readDiv (t : Timer) : Byte := hiByte t.div16

/-- The read value of TAC (10_state R37). -/
def Timer.readTac (t : Timer) : Byte := (0b11111 : BitVec 5) ++ t.tac

/-- A write of DIV, whatever the value (R332). -/
def Timer.writeDiv (t : Timer) : Timer := { t with div16 := 0 }.edgeCheck

/-- A write of TIMA cancels a pending reload (R334, 10_state R35). -/
def Timer.writeTima (t : Timer) (v : Byte) : Timer := { t with tima := v, reloadIn := none }

/-- A write of TMA (10_state R36). -/
def Timer.writeTma (t : Timer) (v : Byte) : Timer := { t with tma := v }

/-- A write of TAC (R332). -/
def Timer.writeTac (t : Timer) (v : Byte) : Timer := { t with tac := v.extractLsb' 0 3 }.edgeCheck

end Sys2Proof.Machine
end

