-- ==== Sys2Proof/Machine/Bus.lean ====
section
/-! DEFINITION. The bus (20_memory R60 to R75): the region of every address, the reads, which change nothing, and the writes. -/

namespace Sys2Proof.Machine

/-- The regions of the address space (20_memory R61). -/
inductive Region
  | rom
  | vram
  | cartRam
  | wram
  | echo
  | oam
  | unusable
  | io
  | hram
  | ie
  deriving DecidableEq, Repr

/-- The region of an address (R61). -/
def regionOf (a : Word) : Region :=
  if a.toNat < 0x8000 then .rom
  else if a.toNat < 0xA000 then .vram
  else if a.toNat < 0xC000 then .cartRam
  else if a.toNat < 0xE000 then .wram
  else if a.toNat < 0xFE00 then .echo
  else if a.toNat < 0xFEA0 then .oam
  else if a.toNat < 0xFF00 then .unusable
  else if a.toNat < 0xFF80 then .io
  else if a.toNat < 0xFFFF then .hram
  else .ie

/-- The I/O registers (R71). -/
inductive IoReg
  | p1 | sb | sc | div | tima | tma | tac | ifReg
  | apu (r : ApuReg)
  | wave (k : Nat)
  | lcdc | stat | scy | scx | ly | lyc | dma | bgp | obp0 | obp1 | wy | wx
  | unmapped
  deriving DecidableEq, Repr

/-- The APU register at 0xFF00 + `k` (R71, 62_apu R422 to R443). -/
def apuRegAt (k : Nat) : Option ApuReg :=
  match k with
  | 0x10 => some .nr10 | 0x11 => some .nr11 | 0x12 => some .nr12 | 0x13 => some .nr13 | 0x14 => some .nr14
  | 0x16 => some .nr21 | 0x17 => some .nr22 | 0x18 => some .nr23 | 0x19 => some .nr24
  | 0x1A => some .nr30 | 0x1B => some .nr31 | 0x1C => some .nr32 | 0x1D => some .nr33 | 0x1E => some .nr34
  | 0x20 => some .nr41 | 0x21 => some .nr42 | 0x22 => some .nr43 | 0x23 => some .nr44
  | 0x24 => some .nr50 | 0x25 => some .nr51 | 0x26 => some .nr52
  | _ => none

/-- The register at 0xFF00 + `k` outside the APU (R71); what is not in the table is unmapped (R74). -/
def deviceRegAt (k : Nat) : IoReg :=
  match k with
  | 0x00 => .p1 | 0x01 => .sb | 0x02 => .sc | 0x04 => .div | 0x05 => .tima | 0x06 => .tma | 0x07 => .tac | 0x0F => .ifReg
  | 0x40 => .lcdc | 0x41 => .stat | 0x42 => .scy | 0x43 => .scx | 0x44 => .ly | 0x45 => .lyc | 0x46 => .dma
  | 0x47 => .bgp | 0x48 => .obp0 | 0x49 => .obp1 | 0x4A => .wy | 0x4B => .wx
  | _ => .unmapped

/-- The I/O register of an address 0xFF00..0xFF7F (R71). -/
def ioRegOf (a : Word) : IoReg :=
  let k := a.toNat - 0xFF00
  if 0x10 ≤ k ∧ k < 0x30 then
    match apuRegAt k with
    | some r => .apu r
    | none => .unmapped
  else if 0x30 ≤ k ∧ k < 0x40 then .wave (k - 0x30)
  else deviceRegAt k

/-- The read value of an I/O register (R71, R74). -/
def State.readIo (s : State) (r : IoReg) : Byte :=
  match r with
  | .p1 => s.joypad.readP1
  | .sb => s.serial.sb
  | .sc => s.serial.readSc
  | .div => s.timer.readDiv
  | .tima => s.timer.tima
  | .tma => s.timer.tma
  | .tac => s.timer.readTac
  | .ifReg => s.ints.readIf
  | .apu r => s.apu.readReg r
  | .wave k => s.apu.ch3.wave.read k
  | .lcdc => s.ppu.lcdc
  | .stat => s.ppu.readStat
  | .scy => s.ppu.scy
  | .scx => s.ppu.scx
  | .ly => s.ppu.readLy
  | .lyc => s.ppu.lyc
  | .dma => s.ppu.dma
  | .bgp => s.ppu.bgp
  | .obp0 => s.ppu.obp0
  | .obp1 => s.ppu.obp1
  | .wy => s.ppu.wy
  | .wx => s.ppu.wx
  | .unmapped => s.cfg.openBus

/-- `MemRead(addr, 1)` (R62, R64 to R74). -/
def State.read (s : State) (a : Word) : Byte :=
  match regionOf a with
  | .rom => s.cart.readRom a.toNat
  | .vram => s.ppu.readVram s.cfg.openBus (a.toNat - 0x8000)
  | .cartRam => s.cart.readRam s.cfg.openBus a.toNat
  | .wram => s.wram.read (a.toNat - 0xC000)
  | .echo => s.wram.read (a.toNat - 0xE000)
  | .oam => s.ppu.readOam s.cfg.openBus (a.toNat - 0xFE00)
  | .unusable => s.cfg.openBus
  | .io => s.readIo (ioRegOf a)
  | .hram => s.hram.read (a.toNat - 0xFF80)
  | .ie => s.ints.ie

/-- `raw_read` of the DMA engine: the dispatch below 0xE000 without the PPU's blocks (R75). -/
def State.rawRead (s : State) (a : Nat) : Byte :=
  if a < 0x8000 then s.cart.readRom a
  else if a < 0xA000 then s.ppu.vram.read (a - 0x8000)
  else if a < 0xC000 then s.cart.readRam s.cfg.openBus a
  else s.wram.read (a - 0xC000)

/-- The address DMA copies byte `i` from; pages 0xE0..0xFF read the WRAM mirror (R75). -/
def dmaSource (v : Byte) (i : Nat) : Nat :=
  let a := v.toNat * 0x100 + i
  if 0xE000 ≤ a then a - 0x2000 else a

/-- OAM after a DMA from page `v`: byte `i` is the byte at `dmaSource v i`, for the 160 bytes of OAM (R75). -/
def State.dmaOam (s : State) (v : Byte) : Memory :=
  Memory.ofBytes ((List.range 160).map fun i => s.rawRead (dmaSource v i)) 0

/-- A P1 write stores bits 5..4 and runs the joypad edge check (10_state R38, 60_exceptions R352), which can also clear
`stopped` (R346). -/
def State.joypadEdgeCheck (s : State) : State :=
  { s with
    ints := s.ints.requestIf s.joypad.falls .joypad
    cpu := { s.cpu with stopped := s.cpu.stopped && !s.joypad.falls }
    joypad := s.joypad.latch }

/-- The PPU's registers stored, followed by `stat_update()` (61_ppu R363, R364, R368, R390; log entry 11). -/
def State.withStatUpdate (s : State) (p : Ppu) : State :=
  { s with ints := s.ints.requestIf p.statRises .stat, ppu := p.statUpdate }

/-- A write of an I/O register (R71, R74, R83). -/
def State.writeIo (s : State) (r : IoReg) (v : Byte) : State :=
  match r with
  | .p1 => { s with joypad := { s.joypad with p1Sel := v.extractLsb' 4 2 } }.joypadEdgeCheck
  | .sb => { s with serial := { s.serial with sb := v } }
  | .sc => { s with serial := s.serial.writeSc v }
  | .div => { s with timer := s.timer.writeDiv }
  | .tima => { s with timer := s.timer.writeTima v }
  | .tma => { s with timer := s.timer.writeTma v }
  | .tac => { s with timer := s.timer.writeTac v }
  | .ifReg => { s with ints := s.ints.writeIf v }
  | .apu r => { s with apu := s.apu.writeReg r v }
  | .wave k => { s with apu := s.apu.writeWave k v }
  | .lcdc => s.withStatUpdate (s.ppu.storeLcdc v)
  | .stat => s.withStatUpdate (s.ppu.storeStat v)
  | .scy => { s with ppu := { s.ppu with scy := v } }
  | .scx => { s with ppu := { s.ppu with scx := v } }
  | .ly => s
  | .lyc => s.withStatUpdate (s.ppu.storeLyc v)
  | .dma => { s with ppu := { s.ppu with dma := v, oam := s.dmaOam v } }
  | .bgp => { s with ppu := { s.ppu with bgp := v } }
  | .obp0 => { s with ppu := { s.ppu with obp0 := v } }
  | .obp1 => { s with ppu := { s.ppu with obp1 := v } }
  | .wy => { s with ppu := { s.ppu with wy := v } }
  | .wx => { s with ppu := { s.ppu with wx := v } }
  | .unmapped => s

/-- `MemWrite(addr, 1, v)` (R63 to R74). -/
def State.write (s : State) (a : Word) (v : Byte) : State :=
  match regionOf a with
  | .rom => { s with cart := s.cart.writeRom a.toNat v }
  | .vram => { s with ppu := s.ppu.writeVram (a.toNat - 0x8000) v }
  | .cartRam => { s with cart := s.cart.writeRam a.toNat v }
  | .wram => { s with wram := s.wram.write (a.toNat - 0xC000) v }
  | .echo => { s with wram := s.wram.write (a.toNat - 0xE000) v }
  | .oam => { s with ppu := s.ppu.writeOam (a.toNat - 0xFE00) v }
  | .unusable => s
  | .io => s.writeIo (ioRegOf a) v
  | .hram => { s with hram := s.hram.write (a.toNat - 0xFF80) v }
  | .ie => { s with ints := { s.ints with ie := v } }

end Sys2Proof.Machine
end

