-- ==== Sys2Proof/Machine/Advance.lean ====
section
/-! DEFINITION. The devices brought forward (60_exceptions R311), and the M-cycles of a step (70_reset R520). -/

namespace Sys2Proof.Machine

/-- One T-cycle of the timer, the PPU and the APU, with the interrupt requests they make (60_exceptions R311). -/
def State.tick (s : State) : State :=
  { s with
    timer := s.timer.tick
    ppu := s.ppu.tick s.cfg.mode3Len
    apu := s.apu.tick s.cfg.samplePeriod
    ints := ((s.ints.requestIf s.timer.reloads .timer).requestIf s.ppu.tickVblank .vblank).requestIf
      (s.ppu.tickStat s.cfg.mode3Len) .stat }

/-- `advance(n)` (R311). -/
def State.advance : Nat → State → State
  | 0, s => s
  | n + 1, s => State.advance n s.tick

/-- The devices advance for one M-cycle under `ACCESS_TIMING = mcycle`, and not yet under `instruction` (70_reset R520). -/
def State.advanceMcycle (s : State) : State :=
  match s.cfg.accessTiming with
  | .instruction => s
  | .mcycle => s.advance 4

/-- The next M-cycle of the step begins: the one before it ends (R520) and 4 T-cycles more are consumed (00_scope R3). -/
def State.mcycle (s : State) : State := { s.advanceMcycle with cycles := s.cycles + 4 }

/-- The end of a step: under `instruction` the devices advance by the step's cost (60_exceptions R310 step 7), under `mcycle` by the
last M-cycle (70_reset R520). -/
def State.finish (s : State) : State :=
  match s.cfg.accessTiming with
  | .instruction => s.advance s.cycles
  | .mcycle => s.advance 4

end Sys2Proof.Machine
end

