-- ==== Sys2Proof/Machine/Flags.lean ====
section
/-! DEFINITION. The flag register (10_state R24, R25) and every result with its flags: 8-bit ALU (42_alu8), 16-bit arithmetic (43_alu16,
41_load16 R183), rotates, shifts and bits (44_rotate_shift_bit). Values are computed over unbounded integers and reduced (00_scope R11). -/

namespace Sys2Proof.Machine

/-- The byte F with the four flags in its upper nibble and 0 in its lower one (10_state R24). -/
def flagsByte (z n h c : Bool) : Byte :=
  BitVec.ofBool z ++ BitVec.ofBool n ++ BitVec.ofBool h ++ BitVec.ofBool c ++ (0 : BitVec 4)

/-- Flag Z, F[7] (R24). -/
def zFlag (f : Byte) : Bool := f.getLsbD 7

/-- Flag N, F[6] (R24). -/
def nFlag (f : Byte) : Bool := f.getLsbD 6

/-- Flag H, F[5] (R24). -/
def hFlag (f : Byte) : Bool := f.getLsbD 5

/-- Flag C, F[4] (R24). -/
def cFlag (f : Byte) : Bool := f.getLsbD 4

/-- A byte written to F: bits 3..0 stay 0 (00_scope R12, 41_load16 R186). -/
def maskF (v : Byte) : Byte := v &&& 0xF0

/-- A result byte with the flags it leaves. -/
structure Flagged where
  value : Byte
  f : Byte
  deriving DecidableEq, Repr

/-- `ADD A,s` and `ADC A,s`, the carry in being `c` (42_alu8 R201, R202). -/
def addWith (a s : Byte) (c : Bool) : Flagged :=
  let value := BitVec.ofNat 8 (a.toNat + s.toNat + c.toNat)
  { value := value
    f := flagsByte (decide (value = 0)) false (decide (a.toNat % 16 + s.toNat % 16 + c.toNat > 0x0F))
      (decide (a.toNat + s.toNat + c.toNat > 0xFF)) }

/-- `SUB s` and `SBC A,s`, the borrow in being `c` (R203, R204). -/
def subWith (a s : Byte) (c : Bool) : Flagged :=
  let value := BitVec.ofInt 8 (a.toNat - s.toNat - c.toNat : Int)
  { value := value
    f := flagsByte (decide (value = 0)) true (decide (a.toNat % 16 < s.toNat % 16 + c.toNat))
      (decide (a.toNat < s.toNat + c.toNat)) }

/-- `AND s` (R205). -/
def andResult (a s : Byte) : Flagged := { value := a &&& s, f := flagsByte (decide (a &&& s = 0)) false true false }

/-- `XOR s` (R206). -/
def xorResult (a s : Byte) : Flagged := { value := a ^^^ s, f := flagsByte (decide (a ^^^ s = 0)) false false false }

/-- `OR s` (R207). -/
def orResult (a s : Byte) : Flagged := { value := a ||| s, f := flagsByte (decide (a ||| s = 0)) false false false }

/-- The eight ALU operations on A and `s` with the flags before (R201 to R208); CP keeps A (R208). -/
def aluResult (op : AluOp) (a s f : Byte) : Flagged :=
  match op with
  | .add => addWith a s false
  | .adc => addWith a s (cFlag f)
  | .sub => subWith a s false
  | .sbc => subWith a s (cFlag f)
  | .and => andResult a s
  | .xor => xorResult a s
  | .or => orResult a s
  | .cp => { value := a, f := (subWith a s false).f }

/-- `INC` of a byte; flag C stays (R209, R210). -/
def incResult (v f : Byte) : Flagged :=
  { value := v + 1, f := flagsByte (decide (v + 1 = 0)) false (decide (v &&& 0x0F = 0x0F)) (cFlag f) }

/-- `DEC` of a byte; flag C stays (R211, R212). -/
def decResult (v f : Byte) : Flagged :=
  { value := v - 1, f := flagsByte (decide (v - 1 = 0)) true (decide (v &&& 0x0F = 0x00)) (cFlag f) }

/-- The amount DAA adds after an addition, or subtracts after a subtraction (R213). -/
def daaAmount (a f : Byte) : Byte :=
  if nFlag f then (if cFlag f then 0x60 else 0) + (if hFlag f then 0x06 else 0)
  else
    (if cFlag f || decide (a.toNat > 0x99) then 0x60 else 0) +
      (if hFlag f || decide (a.toNat % 16 > 0x09) then 0x06 else 0)

/-- Flag C after DAA: set by the addition case, otherwise unchanged (R213). -/
def daaCarry (a f : Byte) : Bool := cFlag f || (!nFlag f && decide (a.toNat > 0x99))

/-- `DAA` (R213). -/
def daaResult (a f : Byte) : Flagged :=
  let value := if nFlag f then a - daaAmount a f else a + daaAmount a f
  { value := value, f := flagsByte (decide (value = 0)) (nFlag f) false (daaCarry a f) }

/-- `CPL` (R214). -/
def cplResult (a f : Byte) : Flagged := { value := ~~~ a, f := flagsByte (zFlag f) true true (cFlag f) }

/-- The flags after `SCF` (R215). -/
def scfFlags (f : Byte) : Byte := flagsByte (zFlag f) false false true

/-- The flags after `CCF` (R216). -/
def ccfFlags (f : Byte) : Byte := flagsByte (zFlag f) false false (!cFlag f)

/-- The flags after `ADD HL,rr`: carries out of bits 11 and 15; Z stays (43_alu16 R230). -/
def addHLFlags (hl rr : Word) (f : Byte) : Byte :=
  flagsByte (zFlag f) false (decide (hl.toNat % 0x1000 + rr.toNat % 0x1000 > 0x0FFF)) (decide (hl.toNat + rr.toNat > 0xFFFF))

/-- SP plus the signed displacement (41_load16 R183, 43_alu16 R233). -/
def spPlus (sp : Word) (e : Byte) : Word := sp + e.signExtend 16

/-- The flags of `ADD SP,e` and `LD HL,SP+e`: the unsigned carries of the low byte (R183, R233). -/
def spPlusFlags (sp : Word) (e : Byte) : Byte :=
  flagsByte false false (decide (sp.toNat % 0x10 + e.toNat % 0x10 > 0x0F)) (decide (sp.toNat % 0x100 + e.toNat > 0xFF))

/-- The value and the carry out of a rotate or shift, the carry in being `c` (44_rotate_shift_bit R245 to R252). -/
def shiftValue (op : ShiftOp) (v : Byte) (c : Bool) : Byte × Bool :=
  match op with
  | .rlc => ((v <<< 1) ||| (v >>> 7), v.getLsbD 7)
  | .rrc => ((v >>> 1) ||| (v <<< 7), v.getLsbD 0)
  | .rl => ((v <<< 1) ||| (BitVec.ofBool c).zeroExtend 8, v.getLsbD 7)
  | .rr => ((v >>> 1) ||| ((BitVec.ofBool c).zeroExtend 8 <<< 7), v.getLsbD 0)
  | .sla => (v <<< 1, v.getLsbD 7)
  | .sra => ((v >>> 1) ||| (v &&& 0x80), v.getLsbD 0)
  | .swap => ((v <<< 4) ||| (v >>> 4), false)
  | .srl => (v >>> 1, v.getLsbD 0)

/-- A prefixed rotate or shift (R245 to R252). -/
def shiftResult (op : ShiftOp) (v f : Byte) : Flagged :=
  let r := shiftValue op v (cFlag f)
  { value := r.1, f := flagsByte (decide (r.1 = 0)) false false r.2 }

/-- The accumulator rotates RLCA, RRCA, RLA, RRA: Z is always cleared (R240 to R243). -/
def accRotateResult (op : ShiftOp) (v f : Byte) : Flagged :=
  let r := shiftValue op v (cFlag f)
  { value := r.1, f := flagsByte false false false r.2 }

/-- The flags after `BIT b,t`; flag C stays (R253). -/
def bitFlags (b : BitVec 3) (v f : Byte) : Byte := flagsByte (!v.getLsbD b.toNat) false true (cFlag f)

/-- `RES b,t` (R254). -/
def resValue (b : BitVec 3) (v : Byte) : Byte := v &&& ~~~ ((1 : Byte) <<< b.toNat)

/-- `SET b,t` (R255). -/
def setValue (b : BitVec 3) (v : Byte) : Byte := v ||| ((1 : Byte) <<< b.toNat)

/-- `cond(cc)` (45_control_flow R270). -/
def condHolds (cc : Cond) (f : Byte) : Bool :=
  match cc with
  | .nz => !zFlag f
  | .z => zFlag f
  | .nc => !cFlag f
  | .c => cFlag f

end Sys2Proof.Machine
end

