-- ==== Sys2Proof/Machine/Operands.lean ====
section
/-! DEFINITION. The registers, the register pairs, the bus accesses of an instruction and its operands (30_encoding R123 to R129, 10_state R20 to
R24). Each access begins an M-cycle of its own (70_reset R520). -/

namespace Sys2Proof.Machine

/-- Reads an 8-bit register (00_scope R12). -/
def Cpu.get (c : Cpu) : Reg8 → Byte
  | .b => c.b
  | .c => c.c
  | .d => c.d
  | .e => c.e
  | .h => c.h
  | .l => c.l
  | .a => c.a

/-- Writes an 8-bit register (00_scope R12). -/
def Cpu.set (cpu : Cpu) (r : Reg8) (v : Byte) : Cpu :=
  match r with
  | .b => { cpu with b := v }
  | .c => { cpu with c := v }
  | .d => { cpu with d := v }
  | .e => { cpu with e := v }
  | .h => { cpu with h := v }
  | .l => { cpu with l := v }
  | .a => { cpu with a := v }

/-- BC, DE, HL and AF as views (10_state R21). -/
def Cpu.bc (c : Cpu) : Word := wordOf c.b c.c

def Cpu.de (c : Cpu) : Word := wordOf c.d c.e

def Cpu.hl (c : Cpu) : Word := wordOf c.h c.l

def Cpu.af (c : Cpu) : Word := wordOf c.a c.f

/-- `HL <- v` (00_scope R12). -/
def Cpu.setHL (c : Cpu) (v : Word) : Cpu := { c with h := hiByte v, l := loByte v }

/-- Reads the operand `rr` (30_encoding R128). -/
def Cpu.getPair (c : Cpu) : Pair → Word
  | .bc => c.bc
  | .de => c.de
  | .hl => c.hl
  | .sp => c.sp

/-- Writes the operand `rr` (R128). -/
def Cpu.setPair (c : Cpu) (p : Pair) (v : Word) : Cpu :=
  match p with
  | .bc => { c with b := hiByte v, c := loByte v }
  | .de => { c with d := hiByte v, e := loByte v }
  | .hl => c.setHL v
  | .sp => { c with sp := v }

/-- Reads the operand `qq` (R129). -/
def Cpu.getStackPair (c : Cpu) : StackPair → Word
  | .bc => c.bc
  | .de => c.de
  | .hl => c.hl
  | .af => c.af

/-- Writes the operand `qq` (R129); F keeps its lower nibble 0 (41_load16 R186). -/
def Cpu.setStackPair (c : Cpu) (p : StackPair) (v : Word) : Cpu :=
  match p with
  | .bc => { c with b := hiByte v, c := loByte v }
  | .de => { c with d := hiByte v, e := loByte v }
  | .hl => c.setHL v
  | .af => { c with a := hiByte v, f := maskF (loByte v) }

/-- The state with its CPU replaced. -/
def State.setCpu (s : State) (c : Cpu) : State := { s with cpu := c }

/-- The state with PC replaced (00_scope R12). -/
def State.setPc (s : State) (a : Word) : State := s.setCpu { s.cpu with pc := a }

/-- The state with SP replaced (00_scope R12). -/
def State.setSp (s : State) (a : Word) : State := s.setCpu { s.cpu with sp := a }

/-- The state with F replaced. -/
def State.setF (s : State) (f : Byte) : State := s.setCpu { s.cpu with f := f }

/-- The state with A and F replaced by a result and its flags. -/
def State.setAF (s : State) (r : Flagged) : State := s.setCpu { s.cpu with a := r.value, f := r.f }

/-- A store in an M-cycle of its own (R520). -/
def State.store (s : State) (a : Word) (v : Byte) : State := s.mcycle.write a v

/-- An operand byte at PC, read at once: `fetch8()` without its M-cycle (30_encoding R123). -/
def State.fetchByte (s : State) : Byte × State := (s.read s.cpu.pc, s.setPc (s.cpu.pc + 1))

/-- `fetch8()` (30_encoding R123) in an M-cycle of its own. -/
def State.fetch8 (s : State) : Byte × State := s.mcycle.fetchByte

/-- The value of an operand `r`, and the state after reading it (30_encoding R127). -/
def State.readOperand (s : State) : Operand8 → Byte × State
  | .reg r => (s.cpu.get r, s)
  | .atHL => (s.mcycle.read s.cpu.hl, s.mcycle)

/-- The operand `r` written (30_encoding R127). -/
def State.writeOperand (s : State) (t : Operand8) (v : Byte) : State :=
  match t with
  | .reg r => s.setCpu (s.cpu.set r v)
  | .atHL => s.store s.cpu.hl v

end Sys2Proof.Machine
end

