-- ==== Sys2Proof/Machine/Ops.lean ====
section
/-! DEFINITION. The operations the meanings share: one per shape of instruction (40_load8 to 46_cpu_control), the stack, taking an interrupt (the
machine's one exception, 60_exceptions R326) and returning from one (R328). They start after the fetch, PC past the instruction, and
place each access in its M-cycle (70_reset R520). -/

namespace Sys2Proof.Machine

/-- The answer of a meaning or of a step. -/
abbrev Answer := Host.Outcome State Fault Refusal

/-- `LD r,r'` (40_load8 R150). -/
def State.copyReg (s : State) (dst src : Reg8) : State := s.setCpu (s.cpu.set dst (s.cpu.get src))

/-- `LD r,n` (R151). -/
def State.setReg (s : State) (r : Reg8) (n : Byte) : State := s.setCpu (s.cpu.set r n)

/-- Loads a register from memory (40_load8 R152, R155, R156, R159, R161, R163). -/
def State.loadReg (s : State) (r : Reg8) (a : Word) : State := s.mcycle.setCpu (s.cpu.set r (s.mcycle.read a))

/-- The address of the I/O page byte `n` (R161 to R164). -/
def ioPage (n : Byte) : Word := wordOf 0xFF n

/-- `LD A,(HL+)` and `LD A,(HL-)`, HL moving by `d` (R165, R166). -/
def State.loadAStep (s : State) (d : Word) : State :=
  (s.loadReg .a s.cpu.hl).setCpu ((s.loadReg .a s.cpu.hl).cpu.setHL (s.cpu.hl + d))

/-- `LD (HL+),A` and `LD (HL-),A` (R167, R168). -/
def State.storeAStep (s : State) (d : Word) : State :=
  (s.store s.cpu.hl s.cpu.a).setCpu ((s.store s.cpu.hl s.cpu.a).cpu.setHL (s.cpu.hl + d))

/-- Half of `push16`: SP goes down by 1, then the byte is written (41_load16 R184). -/
def State.pushByte (s : State) (v : Byte) : State := (s.setSp (s.cpu.sp - 1)).store (s.cpu.sp - 1) v

/-- `push16(v)`: the high byte first, at the higher address (R184). -/
def State.push16 (s : State) (v : Word) : State := (s.pushByte (hiByte v)).pushByte (loByte v)

/-- Half of `pop16`: a byte read at SP, then SP goes up by 1 (R185). -/
def State.popByte (s : State) : Byte × State := (s.mcycle.read s.cpu.sp, s.mcycle.setSp (s.cpu.sp + 1))

/-- `pop16()`: the low byte first (R185). -/
def State.pop16 (s : State) : Word × State :=
  (wordOf s.popByte.2.popByte.1 s.popByte.1, s.popByte.2.popByte.2)

/-- `PUSH qq`: an internal M-cycle, then the two writes (R184, R520). -/
def State.pushPair (s : State) (p : StackPair) : State := s.mcycle.push16 (s.cpu.getStackPair p)

/-- `POP qq` and `POP AF` (R185, R186). -/
def State.popPair (s : State) (p : StackPair) : State :=
  s.pop16.2.setCpu (s.pop16.2.cpu.setStackPair p s.pop16.1)

/-- `LD rr,nn` (R180). -/
def State.setPairImm (s : State) (p : Pair) (nn : Word) : State := s.setCpu (s.cpu.setPair p nn)

/-- `LD (nn),SP`: the low byte first (R181). -/
def State.storeSp (s : State) (nn : Word) : State :=
  (s.store nn (loByte s.cpu.sp)).store (nn + 1) (hiByte s.cpu.sp)

/-- `LD SP,HL` (R182): one internal M-cycle. -/
def State.copyHLToSp (s : State) : State := s.mcycle.setSp s.cpu.hl

/-- `LD HL,SP+e` (R183): one internal M-cycle. -/
def State.loadHLFromSp (s : State) (e : Byte) : State :=
  s.mcycle.setCpu { s.cpu.setHL (spPlus s.cpu.sp e) with f := spPlusFlags s.cpu.sp e }

/-- An ALU operation on A and a value (42_alu8 R201 to R208). -/
def State.aluValue (s : State) (op : AluOp) (v : Byte) : State := s.setAF (aluResult op s.cpu.a v s.cpu.f)

/-- An ALU operation on A and an operand (42_alu8 R200). -/
def State.aluOperand (s : State) (op : AluOp) (src : Operand8) : State :=
  (s.readOperand src).2.aluValue op (s.readOperand src).1

/-- A read-modify-write of an operand, flags included (42_alu8 R209 to R212, 44_rotate_shift_bit R244). The flags are written
before the store; no device reads them. -/
def State.modify (s : State) (t : Operand8) (g : Byte → Byte → Flagged) : State :=
  let r := s.readOperand t
  let out := g r.1 s.cpu.f
  (r.2.setF out.f).writeOperand t out.value

/-- A read-modify-write that leaves the flags (44_rotate_shift_bit R254, R255). -/
def State.modifyBits (s : State) (t : Operand8) (g : Byte → Byte) : State :=
  (s.readOperand t).2.writeOperand t (g (s.readOperand t).1)

/-- `BIT b,t` (R253). -/
def State.testBit (s : State) (b : BitVec 3) (t : Operand8) : State :=
  (s.readOperand t).2.setF (bitFlags b (s.readOperand t).1 s.cpu.f)

/-- `ADD HL,rr` (43_alu16 R230): one internal M-cycle. -/
def State.addToHL (s : State) (p : Pair) : State :=
  s.mcycle.setCpu
    { s.cpu.setHL (s.cpu.hl + s.cpu.getPair p) with f := addHLFlags s.cpu.hl (s.cpu.getPair p) s.cpu.f }

/-- `INC rr` and `DEC rr`, the pair moving by `d` (R231, R232): one internal M-cycle. -/
def State.movePair (s : State) (p : Pair) (d : Word) : State :=
  s.mcycle.setCpu (s.cpu.setPair p (s.cpu.getPair p + d))

/-- `ADD SP,e` (R233): two internal M-cycles. -/
def State.addToSp (s : State) (e : Byte) : State :=
  s.mcycle.mcycle.setCpu { s.cpu with sp := spPlus s.cpu.sp e, f := spPlusFlags s.cpu.sp e }

/-- A jump, with its internal M-cycle (45_control_flow R271, R274). -/
def State.jump (s : State) (target : Word) : State := s.mcycle.setPc target

/-- The target of a relative jump, PC past the instruction (R274). -/
def State.relative (s : State) (e : Byte) : Word := s.cpu.pc + e.signExtend 16

/-- `CALL nn` and `RST t`: an internal M-cycle, PC pushed, PC loaded (R276, R281). -/
def State.call (s : State) (target : Word) : State := (s.mcycle.push16 s.cpu.pc).setPc target

/-- `RET`: PC popped, then an internal M-cycle (R278). -/
def State.ret (s : State) : State := s.pop16.2.mcycle.setPc s.pop16.1

/-- Return from an interrupt handler, `RETI`: as RET, and IME set at once (R280, 60_exceptions R328). -/
def State.returnFromInterrupt (s : State) : State :=
  s.ret.setCpu { s.ret.cpu with ime := true }

/-- Taking an interrupt (60_exceptions R326, R310 step 4): the source is acknowledged, IME and `ei_pending` are cleared, PC is pushed, PC goes
to the vector. Nothing else is saved. The M-cycles are i i W W i (70_reset R520), the first being the step's own; the acknowledge comes before the
device time of them all (DESIGN CHOICE under `ACCESS_TIMING = mcycle`, log entry 10). -/
def State.takeInterrupt (s : State) (k : Source) : State :=
  let s1 := { s with ints := s.ints.acknowledge k, cpu := { s.cpu with ime := false, eiPending := false } }
  (s1.mcycle.push16 s1.cpu.pc).mcycle.setPc k.vector

/-- `JP cc,nn` and `JR cc,e`: the jump is made when the condition holds (R272, R275). -/
def State.jumpIf (s : State) (cc : Cond) (target : Word) : State :=
  if condHolds cc s.cpu.f then s.jump target else s

/-- `CALL cc,nn` (R277). -/
def State.callIf (s : State) (cc : Cond) (target : Word) : State :=
  if condHolds cc s.cpu.f then s.call target else s

/-- `RET cc`: the condition test takes an internal M-cycle of its own (R279). -/
def State.retIf (s : State) (cc : Cond) : State := if condHolds cc s.cpu.f then s.mcycle.ret else s.mcycle

/-- `JP HL` (R273): no M-cycle of its own. -/
def State.jumpHL (s : State) : State := s.setPc s.cpu.hl

/-- `HALT` (46_cpu_control R291): halted, or the halt bug when IME = 0 and an interrupt is pending. Under `ACCESS_TIMING = mcycle` the test comes
before the devices advance for HALT's M-cycle (DESIGN CHOICE, log entry 20). -/
def State.halt (s : State) : State :=
  if s.cpu.ime = false ∧ s.ints.pend ≠ 0 then s.setCpu { s.cpu with haltBug := true }
  else s.setCpu { s.cpu with halted := true }

/-- `STOP` (R292): the ignored byte is already fetched. -/
def State.stopClock (s : State) : State := s.setCpu { s.cpu with stopped := true }

/-- `DI` (R293). -/
def State.disableInterrupts (s : State) : State := s.setCpu { s.cpu with ime := false, eiPending := false }

/-- `EI` (R294): IME follows at the next instruction. -/
def State.enableInterrupts (s : State) : State := s.setCpu { s.cpu with eiPending := true }

/-- An undefined opcode (R295): nothing happens, or the run is rejected under `UNDEF_POLICY = refuse`. -/
def State.undefinedOpcode (s : State) (op : Byte) : Answer :=
  match s.cfg.undefPolicy with
  | .nop => .next s
  | .refuse => .refused (.undefinedOpcode op)

/-- The operation of a prefixed opcode on its target (30_encoding R133). -/
def State.prefixed (s : State) (op2 : Byte) : State :=
  let t := operand8Of (fieldZ op2)
  match fieldX op2 with
  | 0 => s.modify t (shiftResult (shiftOpOf (fieldY op2)))
  | 1 => s.testBit (fieldY op2) t
  | 2 => s.modifyBits t (resValue (fieldY op2))
  | _ => s.modifyBits t (setValue (fieldY op2))

/-- The answer with a function applied to its next state. -/
def Answer.andThen (o : Answer) (g : State → State) : Answer :=
  match o with
  | .next s => .next (g s)
  | .fault r => .fault r
  | .refused r => .refused r

end Sys2Proof.Machine
end

