-- ==== Sys2Proof/Machine/Alu16.lean ====
section
/-! DEFINITION. The meanings of the 16-bit arithmetic instructions (43_alu16), one per row of the table, over the shared operations of Ops.lean. -/

namespace Sys2Proof.Machine

/-- `INC BC` (R231). -/
def exec_inc_bc (s : State) : Answer := .next (s.movePair .bc 1)

/-- `ADD HL,BC` (R230). -/
def exec_add_hl_bc (s : State) : Answer := .next (s.addToHL .bc)

/-- `DEC BC` (R232). -/
def exec_dec_bc (s : State) : Answer := .next (s.movePair .bc (-1))

/-- `INC DE` (R231). -/
def exec_inc_de (s : State) : Answer := .next (s.movePair .de 1)

/-- `ADD HL,DE` (R230). -/
def exec_add_hl_de (s : State) : Answer := .next (s.addToHL .de)

/-- `DEC DE` (R232). -/
def exec_dec_de (s : State) : Answer := .next (s.movePair .de (-1))

/-- `INC HL` (R231). -/
def exec_inc_hl (s : State) : Answer := .next (s.movePair .hl 1)

/-- `ADD HL,HL` (R230). -/
def exec_add_hl_hl (s : State) : Answer := .next (s.addToHL .hl)

/-- `DEC HL` (R232). -/
def exec_dec_hl (s : State) : Answer := .next (s.movePair .hl (-1))

/-- `INC SP` (R231). -/
def exec_inc_sp (s : State) : Answer := .next (s.movePair .sp 1)

/-- `ADD HL,SP` (R230). -/
def exec_add_hl_sp (s : State) : Answer := .next (s.addToHL .sp)

/-- `DEC SP` (R232). -/
def exec_dec_sp (s : State) : Answer := .next (s.movePair .sp (-1))

/-- `ADD SP,e` (R233). -/
def exec_add_sp_e (e : Byte) (s : State) : Answer := .next (s.addToSp e)

end Sys2Proof.Machine
end

