-- ==== Sys2Proof/Machine/Alu8.lean ====
section
/-! DEFINITION. The meanings of the 8-bit arithmetic and logic instructions (42_alu8), one per row of the table, over the shared operations of Ops.lean. -/

namespace Sys2Proof.Machine

/-- `INC B` (R209). -/
def exec_inc_b (s : State) : Answer := .next (s.modify (.reg .b) incResult)

/-- `DEC B` (R211). -/
def exec_dec_b (s : State) : Answer := .next (s.modify (.reg .b) decResult)

/-- `INC C` (R209). -/
def exec_inc_c (s : State) : Answer := .next (s.modify (.reg .c) incResult)

/-- `DEC C` (R211). -/
def exec_dec_c (s : State) : Answer := .next (s.modify (.reg .c) decResult)

/-- `INC D` (R209). -/
def exec_inc_d (s : State) : Answer := .next (s.modify (.reg .d) incResult)

/-- `DEC D` (R211). -/
def exec_dec_d (s : State) : Answer := .next (s.modify (.reg .d) decResult)

/-- `INC E` (R209). -/
def exec_inc_e (s : State) : Answer := .next (s.modify (.reg .e) incResult)

/-- `DEC E` (R211). -/
def exec_dec_e (s : State) : Answer := .next (s.modify (.reg .e) decResult)

/-- `INC H` (R209). -/
def exec_inc_h (s : State) : Answer := .next (s.modify (.reg .h) incResult)

/-- `DEC H` (R211). -/
def exec_dec_h (s : State) : Answer := .next (s.modify (.reg .h) decResult)

/-- `DAA` (R213). -/
def exec_daa (s : State) : Answer := .next (s.setAF (daaResult s.cpu.a s.cpu.f))

/-- `INC L` (R209). -/
def exec_inc_l (s : State) : Answer := .next (s.modify (.reg .l) incResult)

/-- `DEC L` (R211). -/
def exec_dec_l (s : State) : Answer := .next (s.modify (.reg .l) decResult)

/-- `CPL` (R214). -/
def exec_cpl (s : State) : Answer := .next (s.setAF (cplResult s.cpu.a s.cpu.f))

/-- `INC (HL)` (R210). -/
def exec_inc_atHL (s : State) : Answer := .next (s.modify .atHL incResult)

/-- `DEC (HL)` (R212). -/
def exec_dec_atHL (s : State) : Answer := .next (s.modify .atHL decResult)

/-- `SCF` (R215). -/
def exec_scf (s : State) : Answer := .next (s.setF (scfFlags s.cpu.f))

/-- `INC A` (R209). -/
def exec_inc_a (s : State) : Answer := .next (s.modify (.reg .a) incResult)

/-- `DEC A` (R211). -/
def exec_dec_a (s : State) : Answer := .next (s.modify (.reg .a) decResult)

/-- `CCF` (R216). -/
def exec_ccf (s : State) : Answer := .next (s.setF (ccfFlags s.cpu.f))

/-- `ADD A,B` (R201). -/
def exec_add_a_b (s : State) : Answer := .next (s.aluOperand .add (.reg .b))

/-- `ADD A,C` (R201). -/
def exec_add_a_c (s : State) : Answer := .next (s.aluOperand .add (.reg .c))

/-- `ADD A,D` (R201). -/
def exec_add_a_d (s : State) : Answer := .next (s.aluOperand .add (.reg .d))

/-- `ADD A,E` (R201). -/
def exec_add_a_e (s : State) : Answer := .next (s.aluOperand .add (.reg .e))

/-- `ADD A,H` (R201). -/
def exec_add_a_h (s : State) : Answer := .next (s.aluOperand .add (.reg .h))

/-- `ADD A,L` (R201). -/
def exec_add_a_l (s : State) : Answer := .next (s.aluOperand .add (.reg .l))

/-- `ADD A,(HL)` (R201). -/
def exec_add_a_atHL (s : State) : Answer := .next (s.aluOperand .add .atHL)

/-- `ADD A,A` (R201). -/
def exec_add_a_a (s : State) : Answer := .next (s.aluOperand .add (.reg .a))

/-- `ADC A,B` (R202). -/
def exec_adc_a_b (s : State) : Answer := .next (s.aluOperand .adc (.reg .b))

/-- `ADC A,C` (R202). -/
def exec_adc_a_c (s : State) : Answer := .next (s.aluOperand .adc (.reg .c))

/-- `ADC A,D` (R202). -/
def exec_adc_a_d (s : State) : Answer := .next (s.aluOperand .adc (.reg .d))

/-- `ADC A,E` (R202). -/
def exec_adc_a_e (s : State) : Answer := .next (s.aluOperand .adc (.reg .e))

/-- `ADC A,H` (R202). -/
def exec_adc_a_h (s : State) : Answer := .next (s.aluOperand .adc (.reg .h))

/-- `ADC A,L` (R202). -/
def exec_adc_a_l (s : State) : Answer := .next (s.aluOperand .adc (.reg .l))

/-- `ADC A,(HL)` (R202). -/
def exec_adc_a_atHL (s : State) : Answer := .next (s.aluOperand .adc .atHL)

/-- `ADC A,A` (R202). -/
def exec_adc_a_a (s : State) : Answer := .next (s.aluOperand .adc (.reg .a))

/-- `SUB B` (R203). -/
def exec_sub_b (s : State) : Answer := .next (s.aluOperand .sub (.reg .b))

/-- `SUB C` (R203). -/
def exec_sub_c (s : State) : Answer := .next (s.aluOperand .sub (.reg .c))

/-- `SUB D` (R203). -/
def exec_sub_d (s : State) : Answer := .next (s.aluOperand .sub (.reg .d))

/-- `SUB E` (R203). -/
def exec_sub_e (s : State) : Answer := .next (s.aluOperand .sub (.reg .e))

/-- `SUB H` (R203). -/
def exec_sub_h (s : State) : Answer := .next (s.aluOperand .sub (.reg .h))

/-- `SUB L` (R203). -/
def exec_sub_l (s : State) : Answer := .next (s.aluOperand .sub (.reg .l))

/-- `SUB (HL)` (R203). -/
def exec_sub_atHL (s : State) : Answer := .next (s.aluOperand .sub .atHL)

/-- `SUB A` (R203). -/
def exec_sub_a (s : State) : Answer := .next (s.aluOperand .sub (.reg .a))

/-- `SBC A,B` (R204). -/
def exec_sbc_a_b (s : State) : Answer := .next (s.aluOperand .sbc (.reg .b))

/-- `SBC A,C` (R204). -/
def exec_sbc_a_c (s : State) : Answer := .next (s.aluOperand .sbc (.reg .c))

/-- `SBC A,D` (R204). -/
def exec_sbc_a_d (s : State) : Answer := .next (s.aluOperand .sbc (.reg .d))

/-- `SBC A,E` (R204). -/
def exec_sbc_a_e (s : State) : Answer := .next (s.aluOperand .sbc (.reg .e))

/-- `SBC A,H` (R204). -/
def exec_sbc_a_h (s : State) : Answer := .next (s.aluOperand .sbc (.reg .h))

/-- `SBC A,L` (R204). -/
def exec_sbc_a_l (s : State) : Answer := .next (s.aluOperand .sbc (.reg .l))

/-- `SBC A,(HL)` (R204). -/
def exec_sbc_a_atHL (s : State) : Answer := .next (s.aluOperand .sbc .atHL)

/-- `SBC A,A` (R204). -/
def exec_sbc_a_a (s : State) : Answer := .next (s.aluOperand .sbc (.reg .a))

/-- `AND B` (R205). -/
def exec_and_b (s : State) : Answer := .next (s.aluOperand .and (.reg .b))

/-- `AND C` (R205). -/
def exec_and_c (s : State) : Answer := .next (s.aluOperand .and (.reg .c))

/-- `AND D` (R205). -/
def exec_and_d (s : State) : Answer := .next (s.aluOperand .and (.reg .d))

/-- `AND E` (R205). -/
def exec_and_e (s : State) : Answer := .next (s.aluOperand .and (.reg .e))

/-- `AND H` (R205). -/
def exec_and_h (s : State) : Answer := .next (s.aluOperand .and (.reg .h))

/-- `AND L` (R205). -/
def exec_and_l (s : State) : Answer := .next (s.aluOperand .and (.reg .l))

/-- `AND (HL)` (R205). -/
def exec_and_atHL (s : State) : Answer := .next (s.aluOperand .and .atHL)

/-- `AND A` (R205). -/
def exec_and_a (s : State) : Answer := .next (s.aluOperand .and (.reg .a))

/-- `XOR B` (R206). -/
def exec_xor_b (s : State) : Answer := .next (s.aluOperand .xor (.reg .b))

/-- `XOR C` (R206). -/
def exec_xor_c (s : State) : Answer := .next (s.aluOperand .xor (.reg .c))

/-- `XOR D` (R206). -/
def exec_xor_d (s : State) : Answer := .next (s.aluOperand .xor (.reg .d))

/-- `XOR E` (R206). -/
def exec_xor_e (s : State) : Answer := .next (s.aluOperand .xor (.reg .e))

/-- `XOR H` (R206). -/
def exec_xor_h (s : State) : Answer := .next (s.aluOperand .xor (.reg .h))

/-- `XOR L` (R206). -/
def exec_xor_l (s : State) : Answer := .next (s.aluOperand .xor (.reg .l))

/-- `XOR (HL)` (R206). -/
def exec_xor_atHL (s : State) : Answer := .next (s.aluOperand .xor .atHL)

/-- `XOR A` (R206). -/
def exec_xor_a (s : State) : Answer := .next (s.aluOperand .xor (.reg .a))

/-- `OR B` (R207). -/
def exec_or_b (s : State) : Answer := .next (s.aluOperand .or (.reg .b))

/-- `OR C` (R207). -/
def exec_or_c (s : State) : Answer := .next (s.aluOperand .or (.reg .c))

/-- `OR D` (R207). -/
def exec_or_d (s : State) : Answer := .next (s.aluOperand .or (.reg .d))

/-- `OR E` (R207). -/
def exec_or_e (s : State) : Answer := .next (s.aluOperand .or (.reg .e))

/-- `OR H` (R207). -/
def exec_or_h (s : State) : Answer := .next (s.aluOperand .or (.reg .h))

/-- `OR L` (R207). -/
def exec_or_l (s : State) : Answer := .next (s.aluOperand .or (.reg .l))

/-- `OR (HL)` (R207). -/
def exec_or_atHL (s : State) : Answer := .next (s.aluOperand .or .atHL)

/-- `OR A` (R207). -/
def exec_or_a (s : State) : Answer := .next (s.aluOperand .or (.reg .a))

/-- `CP B` (R208). -/
def exec_cp_b (s : State) : Answer := .next (s.aluOperand .cp (.reg .b))

/-- `CP C` (R208). -/
def exec_cp_c (s : State) : Answer := .next (s.aluOperand .cp (.reg .c))

/-- `CP D` (R208). -/
def exec_cp_d (s : State) : Answer := .next (s.aluOperand .cp (.reg .d))

/-- `CP E` (R208). -/
def exec_cp_e (s : State) : Answer := .next (s.aluOperand .cp (.reg .e))

/-- `CP H` (R208). -/
def exec_cp_h (s : State) : Answer := .next (s.aluOperand .cp (.reg .h))

/-- `CP L` (R208). -/
def exec_cp_l (s : State) : Answer := .next (s.aluOperand .cp (.reg .l))

/-- `CP (HL)` (R208). -/
def exec_cp_atHL (s : State) : Answer := .next (s.aluOperand .cp .atHL)

/-- `CP A` (R208). -/
def exec_cp_a (s : State) : Answer := .next (s.aluOperand .cp (.reg .a))

/-- `ADD A,n` (R201). -/
def exec_add_a_n (n : Byte) (s : State) : Answer := .next (s.aluValue .add n)

/-- `ADC A,n` (R202). -/
def exec_adc_a_n (n : Byte) (s : State) : Answer := .next (s.aluValue .adc n)

/-- `SUB n` (R203). -/
def exec_sub_n (n : Byte) (s : State) : Answer := .next (s.aluValue .sub n)

/-- `SBC A,n` (R204). -/
def exec_sbc_a_n (n : Byte) (s : State) : Answer := .next (s.aluValue .sbc n)

/-- `AND n` (R205). -/
def exec_and_n (n : Byte) (s : State) : Answer := .next (s.aluValue .and n)

/-- `XOR n` (R206). -/
def exec_xor_n (n : Byte) (s : State) : Answer := .next (s.aluValue .xor n)

/-- `OR n` (R207). -/
def exec_or_n (n : Byte) (s : State) : Answer := .next (s.aluValue .or n)

/-- `CP n` (R208). -/
def exec_cp_n (n : Byte) (s : State) : Answer := .next (s.aluValue .cp n)

end Sys2Proof.Machine
end

