-- ==== Sys2Proof/Machine/Bits.lean ====
section
/-! DEFINITION. The meanings of the bit instructions (44_rotate_shift_bit R253 to R255), one per row of the table, over the shared operations of Ops.lean. -/

namespace Sys2Proof.Machine

/-- `BIT 0,B` (R253). -/
def exec_bit_0_b (s : State) : Answer := .next (s.testBit 0 (.reg .b))

/-- `BIT 0,C` (R253). -/
def exec_bit_0_c (s : State) : Answer := .next (s.testBit 0 (.reg .c))

/-- `BIT 0,D` (R253). -/
def exec_bit_0_d (s : State) : Answer := .next (s.testBit 0 (.reg .d))

/-- `BIT 0,E` (R253). -/
def exec_bit_0_e (s : State) : Answer := .next (s.testBit 0 (.reg .e))

/-- `BIT 0,H` (R253). -/
def exec_bit_0_h (s : State) : Answer := .next (s.testBit 0 (.reg .h))

/-- `BIT 0,L` (R253). -/
def exec_bit_0_l (s : State) : Answer := .next (s.testBit 0 (.reg .l))

/-- `BIT 0,(HL)` (R253). -/
def exec_bit_0_atHL (s : State) : Answer := .next (s.testBit 0 .atHL)

/-- `BIT 0,A` (R253). -/
def exec_bit_0_a (s : State) : Answer := .next (s.testBit 0 (.reg .a))

/-- `BIT 1,B` (R253). -/
def exec_bit_1_b (s : State) : Answer := .next (s.testBit 1 (.reg .b))

/-- `BIT 1,C` (R253). -/
def exec_bit_1_c (s : State) : Answer := .next (s.testBit 1 (.reg .c))

/-- `BIT 1,D` (R253). -/
def exec_bit_1_d (s : State) : Answer := .next (s.testBit 1 (.reg .d))

/-- `BIT 1,E` (R253). -/
def exec_bit_1_e (s : State) : Answer := .next (s.testBit 1 (.reg .e))

/-- `BIT 1,H` (R253). -/
def exec_bit_1_h (s : State) : Answer := .next (s.testBit 1 (.reg .h))

/-- `BIT 1,L` (R253). -/
def exec_bit_1_l (s : State) : Answer := .next (s.testBit 1 (.reg .l))

/-- `BIT 1,(HL)` (R253). -/
def exec_bit_1_atHL (s : State) : Answer := .next (s.testBit 1 .atHL)

/-- `BIT 1,A` (R253). -/
def exec_bit_1_a (s : State) : Answer := .next (s.testBit 1 (.reg .a))

/-- `BIT 2,B` (R253). -/
def exec_bit_2_b (s : State) : Answer := .next (s.testBit 2 (.reg .b))

/-- `BIT 2,C` (R253). -/
def exec_bit_2_c (s : State) : Answer := .next (s.testBit 2 (.reg .c))

/-- `BIT 2,D` (R253). -/
def exec_bit_2_d (s : State) : Answer := .next (s.testBit 2 (.reg .d))

/-- `BIT 2,E` (R253). -/
def exec_bit_2_e (s : State) : Answer := .next (s.testBit 2 (.reg .e))

/-- `BIT 2,H` (R253). -/
def exec_bit_2_h (s : State) : Answer := .next (s.testBit 2 (.reg .h))

/-- `BIT 2,L` (R253). -/
def exec_bit_2_l (s : State) : Answer := .next (s.testBit 2 (.reg .l))

/-- `BIT 2,(HL)` (R253). -/
def exec_bit_2_atHL (s : State) : Answer := .next (s.testBit 2 .atHL)

/-- `BIT 2,A` (R253). -/
def exec_bit_2_a (s : State) : Answer := .next (s.testBit 2 (.reg .a))

/-- `BIT 3,B` (R253). -/
def exec_bit_3_b (s : State) : Answer := .next (s.testBit 3 (.reg .b))

/-- `BIT 3,C` (R253). -/
def exec_bit_3_c (s : State) : Answer := .next (s.testBit 3 (.reg .c))

/-- `BIT 3,D` (R253). -/
def exec_bit_3_d (s : State) : Answer := .next (s.testBit 3 (.reg .d))

/-- `BIT 3,E` (R253). -/
def exec_bit_3_e (s : State) : Answer := .next (s.testBit 3 (.reg .e))

/-- `BIT 3,H` (R253). -/
def exec_bit_3_h (s : State) : Answer := .next (s.testBit 3 (.reg .h))

/-- `BIT 3,L` (R253). -/
def exec_bit_3_l (s : State) : Answer := .next (s.testBit 3 (.reg .l))

/-- `BIT 3,(HL)` (R253). -/
def exec_bit_3_atHL (s : State) : Answer := .next (s.testBit 3 .atHL)

/-- `BIT 3,A` (R253). -/
def exec_bit_3_a (s : State) : Answer := .next (s.testBit 3 (.reg .a))

/-- `BIT 4,B` (R253). -/
def exec_bit_4_b (s : State) : Answer := .next (s.testBit 4 (.reg .b))

/-- `BIT 4,C` (R253). -/
def exec_bit_4_c (s : State) : Answer := .next (s.testBit 4 (.reg .c))

/-- `BIT 4,D` (R253). -/
def exec_bit_4_d (s : State) : Answer := .next (s.testBit 4 (.reg .d))

/-- `BIT 4,E` (R253). -/
def exec_bit_4_e (s : State) : Answer := .next (s.testBit 4 (.reg .e))

/-- `BIT 4,H` (R253). -/
def exec_bit_4_h (s : State) : Answer := .next (s.testBit 4 (.reg .h))

/-- `BIT 4,L` (R253). -/
def exec_bit_4_l (s : State) : Answer := .next (s.testBit 4 (.reg .l))

/-- `BIT 4,(HL)` (R253). -/
def exec_bit_4_atHL (s : State) : Answer := .next (s.testBit 4 .atHL)

/-- `BIT 4,A` (R253). -/
def exec_bit_4_a (s : State) : Answer := .next (s.testBit 4 (.reg .a))

/-- `BIT 5,B` (R253). -/
def exec_bit_5_b (s : State) : Answer := .next (s.testBit 5 (.reg .b))

/-- `BIT 5,C` (R253). -/
def exec_bit_5_c (s : State) : Answer := .next (s.testBit 5 (.reg .c))

/-- `BIT 5,D` (R253). -/
def exec_bit_5_d (s : State) : Answer := .next (s.testBit 5 (.reg .d))

/-- `BIT 5,E` (R253). -/
def exec_bit_5_e (s : State) : Answer := .next (s.testBit 5 (.reg .e))

/-- `BIT 5,H` (R253). -/
def exec_bit_5_h (s : State) : Answer := .next (s.testBit 5 (.reg .h))

/-- `BIT 5,L` (R253). -/
def exec_bit_5_l (s : State) : Answer := .next (s.testBit 5 (.reg .l))

/-- `BIT 5,(HL)` (R253). -/
def exec_bit_5_atHL (s : State) : Answer := .next (s.testBit 5 .atHL)

/-- `BIT 5,A` (R253). -/
def exec_bit_5_a (s : State) : Answer := .next (s.testBit 5 (.reg .a))

/-- `BIT 6,B` (R253). -/
def exec_bit_6_b (s : State) : Answer := .next (s.testBit 6 (.reg .b))

/-- `BIT 6,C` (R253). -/
def exec_bit_6_c (s : State) : Answer := .next (s.testBit 6 (.reg .c))

/-- `BIT 6,D` (R253). -/
def exec_bit_6_d (s : State) : Answer := .next (s.testBit 6 (.reg .d))

/-- `BIT 6,E` (R253). -/
def exec_bit_6_e (s : State) : Answer := .next (s.testBit 6 (.reg .e))

/-- `BIT 6,H` (R253). -/
def exec_bit_6_h (s : State) : Answer := .next (s.testBit 6 (.reg .h))

/-- `BIT 6,L` (R253). -/
def exec_bit_6_l (s : State) : Answer := .next (s.testBit 6 (.reg .l))

/-- `BIT 6,(HL)` (R253). -/
def exec_bit_6_atHL (s : State) : Answer := .next (s.testBit 6 .atHL)

/-- `BIT 6,A` (R253). -/
def exec_bit_6_a (s : State) : Answer := .next (s.testBit 6 (.reg .a))

/-- `BIT 7,B` (R253). -/
def exec_bit_7_b (s : State) : Answer := .next (s.testBit 7 (.reg .b))

/-- `BIT 7,C` (R253). -/
def exec_bit_7_c (s : State) : Answer := .next (s.testBit 7 (.reg .c))

/-- `BIT 7,D` (R253). -/
def exec_bit_7_d (s : State) : Answer := .next (s.testBit 7 (.reg .d))

/-- `BIT 7,E` (R253). -/
def exec_bit_7_e (s : State) : Answer := .next (s.testBit 7 (.reg .e))

/-- `BIT 7,H` (R253). -/
def exec_bit_7_h (s : State) : Answer := .next (s.testBit 7 (.reg .h))

/-- `BIT 7,L` (R253). -/
def exec_bit_7_l (s : State) : Answer := .next (s.testBit 7 (.reg .l))

/-- `BIT 7,(HL)` (R253). -/
def exec_bit_7_atHL (s : State) : Answer := .next (s.testBit 7 .atHL)

/-- `BIT 7,A` (R253). -/
def exec_bit_7_a (s : State) : Answer := .next (s.testBit 7 (.reg .a))

/-- `RES 0,B` (R254). -/
def exec_res_0_b (s : State) : Answer := .next (s.modifyBits (.reg .b) (resValue 0))

/-- `RES 0,C` (R254). -/
def exec_res_0_c (s : State) : Answer := .next (s.modifyBits (.reg .c) (resValue 0))

/-- `RES 0,D` (R254). -/
def exec_res_0_d (s : State) : Answer := .next (s.modifyBits (.reg .d) (resValue 0))

/-- `RES 0,E` (R254). -/
def exec_res_0_e (s : State) : Answer := .next (s.modifyBits (.reg .e) (resValue 0))

/-- `RES 0,H` (R254). -/
def exec_res_0_h (s : State) : Answer := .next (s.modifyBits (.reg .h) (resValue 0))

/-- `RES 0,L` (R254). -/
def exec_res_0_l (s : State) : Answer := .next (s.modifyBits (.reg .l) (resValue 0))

/-- `RES 0,(HL)` (R254). -/
def exec_res_0_atHL (s : State) : Answer := .next (s.modifyBits .atHL (resValue 0))

/-- `RES 0,A` (R254). -/
def exec_res_0_a (s : State) : Answer := .next (s.modifyBits (.reg .a) (resValue 0))

/-- `RES 1,B` (R254). -/
def exec_res_1_b (s : State) : Answer := .next (s.modifyBits (.reg .b) (resValue 1))

/-- `RES 1,C` (R254). -/
def exec_res_1_c (s : State) : Answer := .next (s.modifyBits (.reg .c) (resValue 1))

/-- `RES 1,D` (R254). -/
def exec_res_1_d (s : State) : Answer := .next (s.modifyBits (.reg .d) (resValue 1))

/-- `RES 1,E` (R254). -/
def exec_res_1_e (s : State) : Answer := .next (s.modifyBits (.reg .e) (resValue 1))

/-- `RES 1,H` (R254). -/
def exec_res_1_h (s : State) : Answer := .next (s.modifyBits (.reg .h) (resValue 1))

/-- `RES 1,L` (R254). -/
def exec_res_1_l (s : State) : Answer := .next (s.modifyBits (.reg .l) (resValue 1))

/-- `RES 1,(HL)` (R254). -/
def exec_res_1_atHL (s : State) : Answer := .next (s.modifyBits .atHL (resValue 1))

/-- `RES 1,A` (R254). -/
def exec_res_1_a (s : State) : Answer := .next (s.modifyBits (.reg .a) (resValue 1))

/-- `RES 2,B` (R254). -/
def exec_res_2_b (s : State) : Answer := .next (s.modifyBits (.reg .b) (resValue 2))

/-- `RES 2,C` (R254). -/
def exec_res_2_c (s : State) : Answer := .next (s.modifyBits (.reg .c) (resValue 2))

/-- `RES 2,D` (R254). -/
def exec_res_2_d (s : State) : Answer := .next (s.modifyBits (.reg .d) (resValue 2))

/-- `RES 2,E` (R254). -/
def exec_res_2_e (s : State) : Answer := .next (s.modifyBits (.reg .e) (resValue 2))

/-- `RES 2,H` (R254). -/
def exec_res_2_h (s : State) : Answer := .next (s.modifyBits (.reg .h) (resValue 2))

/-- `RES 2,L` (R254). -/
def exec_res_2_l (s : State) : Answer := .next (s.modifyBits (.reg .l) (resValue 2))

/-- `RES 2,(HL)` (R254). -/
def exec_res_2_atHL (s : State) : Answer := .next (s.modifyBits .atHL (resValue 2))

/-- `RES 2,A` (R254). -/
def exec_res_2_a (s : State) : Answer := .next (s.modifyBits (.reg .a) (resValue 2))

/-- `RES 3,B` (R254). -/
def exec_res_3_b (s : State) : Answer := .next (s.modifyBits (.reg .b) (resValue 3))

/-- `RES 3,C` (R254). -/
def exec_res_3_c (s : State) : Answer := .next (s.modifyBits (.reg .c) (resValue 3))

/-- `RES 3,D` (R254). -/
def exec_res_3_d (s : State) : Answer := .next (s.modifyBits (.reg .d) (resValue 3))

/-- `RES 3,E` (R254). -/
def exec_res_3_e (s : State) : Answer := .next (s.modifyBits (.reg .e) (resValue 3))

/-- `RES 3,H` (R254). -/
def exec_res_3_h (s : State) : Answer := .next (s.modifyBits (.reg .h) (resValue 3))

/-- `RES 3,L` (R254). -/
def exec_res_3_l (s : State) : Answer := .next (s.modifyBits (.reg .l) (resValue 3))

/-- `RES 3,(HL)` (R254). -/
def exec_res_3_atHL (s : State) : Answer := .next (s.modifyBits .atHL (resValue 3))

/-- `RES 3,A` (R254). -/
def exec_res_3_a (s : State) : Answer := .next (s.modifyBits (.reg .a) (resValue 3))

/-- `RES 4,B` (R254). -/
def exec_res_4_b (s : State) : Answer := .next (s.modifyBits (.reg .b) (resValue 4))

/-- `RES 4,C` (R254). -/
def exec_res_4_c (s : State) : Answer := .next (s.modifyBits (.reg .c) (resValue 4))

/-- `RES 4,D` (R254). -/
def exec_res_4_d (s : State) : Answer := .next (s.modifyBits (.reg .d) (resValue 4))

/-- `RES 4,E` (R254). -/
def exec_res_4_e (s : State) : Answer := .next (s.modifyBits (.reg .e) (resValue 4))

/-- `RES 4,H` (R254). -/
def exec_res_4_h (s : State) : Answer := .next (s.modifyBits (.reg .h) (resValue 4))

/-- `RES 4,L` (R254). -/
def exec_res_4_l (s : State) : Answer := .next (s.modifyBits (.reg .l) (resValue 4))

/-- `RES 4,(HL)` (R254). -/
def exec_res_4_atHL (s : State) : Answer := .next (s.modifyBits .atHL (resValue 4))

/-- `RES 4,A` (R254). -/
def exec_res_4_a (s : State) : Answer := .next (s.modifyBits (.reg .a) (resValue 4))

/-- `RES 5,B` (R254). -/
def exec_res_5_b (s : State) : Answer := .next (s.modifyBits (.reg .b) (resValue 5))

/-- `RES 5,C` (R254). -/
def exec_res_5_c (s : State) : Answer := .next (s.modifyBits (.reg .c) (resValue 5))

/-- `RES 5,D` (R254). -/
def exec_res_5_d (s : State) : Answer := .next (s.modifyBits (.reg .d) (resValue 5))

/-- `RES 5,E` (R254). -/
def exec_res_5_e (s : State) : Answer := .next (s.modifyBits (.reg .e) (resValue 5))

/-- `RES 5,H` (R254). -/
def exec_res_5_h (s : State) : Answer := .next (s.modifyBits (.reg .h) (resValue 5))

/-- `RES 5,L` (R254). -/
def exec_res_5_l (s : State) : Answer := .next (s.modifyBits (.reg .l) (resValue 5))

/-- `RES 5,(HL)` (R254). -/
def exec_res_5_atHL (s : State) : Answer := .next (s.modifyBits .atHL (resValue 5))

/-- `RES 5,A` (R254). -/
def exec_res_5_a (s : State) : Answer := .next (s.modifyBits (.reg .a) (resValue 5))

/-- `RES 6,B` (R254). -/
def exec_res_6_b (s : State) : Answer := .next (s.modifyBits (.reg .b) (resValue 6))

/-- `RES 6,C` (R254). -/
def exec_res_6_c (s : State) : Answer := .next (s.modifyBits (.reg .c) (resValue 6))

/-- `RES 6,D` (R254). -/
def exec_res_6_d (s : State) : Answer := .next (s.modifyBits (.reg .d) (resValue 6))

/-- `RES 6,E` (R254). -/
def exec_res_6_e (s : State) : Answer := .next (s.modifyBits (.reg .e) (resValue 6))

/-- `RES 6,H` (R254). -/
def exec_res_6_h (s : State) : Answer := .next (s.modifyBits (.reg .h) (resValue 6))

/-- `RES 6,L` (R254). -/
def exec_res_6_l (s : State) : Answer := .next (s.modifyBits (.reg .l) (resValue 6))

/-- `RES 6,(HL)` (R254). -/
def exec_res_6_atHL (s : State) : Answer := .next (s.modifyBits .atHL (resValue 6))

/-- `RES 6,A` (R254). -/
def exec_res_6_a (s : State) : Answer := .next (s.modifyBits (.reg .a) (resValue 6))

/-- `RES 7,B` (R254). -/
def exec_res_7_b (s : State) : Answer := .next (s.modifyBits (.reg .b) (resValue 7))

/-- `RES 7,C` (R254). -/
def exec_res_7_c (s : State) : Answer := .next (s.modifyBits (.reg .c) (resValue 7))

/-- `RES 7,D` (R254). -/
def exec_res_7_d (s : State) : Answer := .next (s.modifyBits (.reg .d) (resValue 7))

/-- `RES 7,E` (R254). -/
def exec_res_7_e (s : State) : Answer := .next (s.modifyBits (.reg .e) (resValue 7))

/-- `RES 7,H` (R254). -/
def exec_res_7_h (s : State) : Answer := .next (s.modifyBits (.reg .h) (resValue 7))

/-- `RES 7,L` (R254). -/
def exec_res_7_l (s : State) : Answer := .next (s.modifyBits (.reg .l) (resValue 7))

/-- `RES 7,(HL)` (R254). -/
def exec_res_7_atHL (s : State) : Answer := .next (s.modifyBits .atHL (resValue 7))

/-- `RES 7,A` (R254). -/
def exec_res_7_a (s : State) : Answer := .next (s.modifyBits (.reg .a) (resValue 7))

/-- `SET 0,B` (R255). -/
def exec_set_0_b (s : State) : Answer := .next (s.modifyBits (.reg .b) (setValue 0))

/-- `SET 0,C` (R255). -/
def exec_set_0_c (s : State) : Answer := .next (s.modifyBits (.reg .c) (setValue 0))

/-- `SET 0,D` (R255). -/
def exec_set_0_d (s : State) : Answer := .next (s.modifyBits (.reg .d) (setValue 0))

/-- `SET 0,E` (R255). -/
def exec_set_0_e (s : State) : Answer := .next (s.modifyBits (.reg .e) (setValue 0))

/-- `SET 0,H` (R255). -/
def exec_set_0_h (s : State) : Answer := .next (s.modifyBits (.reg .h) (setValue 0))

/-- `SET 0,L` (R255). -/
def exec_set_0_l (s : State) : Answer := .next (s.modifyBits (.reg .l) (setValue 0))

/-- `SET 0,(HL)` (R255). -/
def exec_set_0_atHL (s : State) : Answer := .next (s.modifyBits .atHL (setValue 0))

/-- `SET 0,A` (R255). -/
def exec_set_0_a (s : State) : Answer := .next (s.modifyBits (.reg .a) (setValue 0))

/-- `SET 1,B` (R255). -/
def exec_set_1_b (s : State) : Answer := .next (s.modifyBits (.reg .b) (setValue 1))

/-- `SET 1,C` (R255). -/
def exec_set_1_c (s : State) : Answer := .next (s.modifyBits (.reg .c) (setValue 1))

/-- `SET 1,D` (R255). -/
def exec_set_1_d (s : State) : Answer := .next (s.modifyBits (.reg .d) (setValue 1))

/-- `SET 1,E` (R255). -/
def exec_set_1_e (s : State) : Answer := .next (s.modifyBits (.reg .e) (setValue 1))

/-- `SET 1,H` (R255). -/
def exec_set_1_h (s : State) : Answer := .next (s.modifyBits (.reg .h) (setValue 1))

/-- `SET 1,L` (R255). -/
def exec_set_1_l (s : State) : Answer := .next (s.modifyBits (.reg .l) (setValue 1))

/-- `SET 1,(HL)` (R255). -/
def exec_set_1_atHL (s : State) : Answer := .next (s.modifyBits .atHL (setValue 1))

/-- `SET 1,A` (R255). -/
def exec_set_1_a (s : State) : Answer := .next (s.modifyBits (.reg .a) (setValue 1))

/-- `SET 2,B` (R255). -/
def exec_set_2_b (s : State) : Answer := .next (s.modifyBits (.reg .b) (setValue 2))

/-- `SET 2,C` (R255). -/
def exec_set_2_c (s : State) : Answer := .next (s.modifyBits (.reg .c) (setValue 2))

/-- `SET 2,D` (R255). -/
def exec_set_2_d (s : State) : Answer := .next (s.modifyBits (.reg .d) (setValue 2))

/-- `SET 2,E` (R255). -/
def exec_set_2_e (s : State) : Answer := .next (s.modifyBits (.reg .e) (setValue 2))

/-- `SET 2,H` (R255). -/
def exec_set_2_h (s : State) : Answer := .next (s.modifyBits (.reg .h) (setValue 2))

/-- `SET 2,L` (R255). -/
def exec_set_2_l (s : State) : Answer := .next (s.modifyBits (.reg .l) (setValue 2))

/-- `SET 2,(HL)` (R255). -/
def exec_set_2_atHL (s : State) : Answer := .next (s.modifyBits .atHL (setValue 2))

/-- `SET 2,A` (R255). -/
def exec_set_2_a (s : State) : Answer := .next (s.modifyBits (.reg .a) (setValue 2))

/-- `SET 3,B` (R255). -/
def exec_set_3_b (s : State) : Answer := .next (s.modifyBits (.reg .b) (setValue 3))

/-- `SET 3,C` (R255). -/
def exec_set_3_c (s : State) : Answer := .next (s.modifyBits (.reg .c) (setValue 3))

/-- `SET 3,D` (R255). -/
def exec_set_3_d (s : State) : Answer := .next (s.modifyBits (.reg .d) (setValue 3))

/-- `SET 3,E` (R255). -/
def exec_set_3_e (s : State) : Answer := .next (s.modifyBits (.reg .e) (setValue 3))

/-- `SET 3,H` (R255). -/
def exec_set_3_h (s : State) : Answer := .next (s.modifyBits (.reg .h) (setValue 3))

/-- `SET 3,L` (R255). -/
def exec_set_3_l (s : State) : Answer := .next (s.modifyBits (.reg .l) (setValue 3))

/-- `SET 3,(HL)` (R255). -/
def exec_set_3_atHL (s : State) : Answer := .next (s.modifyBits .atHL (setValue 3))

/-- `SET 3,A` (R255). -/
def exec_set_3_a (s : State) : Answer := .next (s.modifyBits (.reg .a) (setValue 3))

/-- `SET 4,B` (R255). -/
def exec_set_4_b (s : State) : Answer := .next (s.modifyBits (.reg .b) (setValue 4))

/-- `SET 4,C` (R255). -/
def exec_set_4_c (s : State) : Answer := .next (s.modifyBits (.reg .c) (setValue 4))

/-- `SET 4,D` (R255). -/
def exec_set_4_d (s : State) : Answer := .next (s.modifyBits (.reg .d) (setValue 4))

/-- `SET 4,E` (R255). -/
def exec_set_4_e (s : State) : Answer := .next (s.modifyBits (.reg .e) (setValue 4))

/-- `SET 4,H` (R255). -/
def exec_set_4_h (s : State) : Answer := .next (s.modifyBits (.reg .h) (setValue 4))

/-- `SET 4,L` (R255). -/
def exec_set_4_l (s : State) : Answer := .next (s.modifyBits (.reg .l) (setValue 4))

/-- `SET 4,(HL)` (R255). -/
def exec_set_4_atHL (s : State) : Answer := .next (s.modifyBits .atHL (setValue 4))

/-- `SET 4,A` (R255). -/
def exec_set_4_a (s : State) : Answer := .next (s.modifyBits (.reg .a) (setValue 4))

/-- `SET 5,B` (R255). -/
def exec_set_5_b (s : State) : Answer := .next (s.modifyBits (.reg .b) (setValue 5))

/-- `SET 5,C` (R255). -/
def exec_set_5_c (s : State) : Answer := .next (s.modifyBits (.reg .c) (setValue 5))

/-- `SET 5,D` (R255). -/
def exec_set_5_d (s : State) : Answer := .next (s.modifyBits (.reg .d) (setValue 5))

/-- `SET 5,E` (R255). -/
def exec_set_5_e (s : State) : Answer := .next (s.modifyBits (.reg .e) (setValue 5))

/-- `SET 5,H` (R255). -/
def exec_set_5_h (s : State) : Answer := .next (s.modifyBits (.reg .h) (setValue 5))

/-- `SET 5,L` (R255). -/
def exec_set_5_l (s : State) : Answer := .next (s.modifyBits (.reg .l) (setValue 5))

/-- `SET 5,(HL)` (R255). -/
def exec_set_5_atHL (s : State) : Answer := .next (s.modifyBits .atHL (setValue 5))

/-- `SET 5,A` (R255). -/
def exec_set_5_a (s : State) : Answer := .next (s.modifyBits (.reg .a) (setValue 5))

/-- `SET 6,B` (R255). -/
def exec_set_6_b (s : State) : Answer := .next (s.modifyBits (.reg .b) (setValue 6))

/-- `SET 6,C` (R255). -/
def exec_set_6_c (s : State) : Answer := .next (s.modifyBits (.reg .c) (setValue 6))

/-- `SET 6,D` (R255). -/
def exec_set_6_d (s : State) : Answer := .next (s.modifyBits (.reg .d) (setValue 6))

/-- `SET 6,E` (R255). -/
def exec_set_6_e (s : State) : Answer := .next (s.modifyBits (.reg .e) (setValue 6))

/-- `SET 6,H` (R255). -/
def exec_set_6_h (s : State) : Answer := .next (s.modifyBits (.reg .h) (setValue 6))

/-- `SET 6,L` (R255). -/
def exec_set_6_l (s : State) : Answer := .next (s.modifyBits (.reg .l) (setValue 6))

/-- `SET 6,(HL)` (R255). -/
def exec_set_6_atHL (s : State) : Answer := .next (s.modifyBits .atHL (setValue 6))

/-- `SET 6,A` (R255). -/
def exec_set_6_a (s : State) : Answer := .next (s.modifyBits (.reg .a) (setValue 6))

/-- `SET 7,B` (R255). -/
def exec_set_7_b (s : State) : Answer := .next (s.modifyBits (.reg .b) (setValue 7))

/-- `SET 7,C` (R255). -/
def exec_set_7_c (s : State) : Answer := .next (s.modifyBits (.reg .c) (setValue 7))

/-- `SET 7,D` (R255). -/
def exec_set_7_d (s : State) : Answer := .next (s.modifyBits (.reg .d) (setValue 7))

/-- `SET 7,E` (R255). -/
def exec_set_7_e (s : State) : Answer := .next (s.modifyBits (.reg .e) (setValue 7))

/-- `SET 7,H` (R255). -/
def exec_set_7_h (s : State) : Answer := .next (s.modifyBits (.reg .h) (setValue 7))

/-- `SET 7,L` (R255). -/
def exec_set_7_l (s : State) : Answer := .next (s.modifyBits (.reg .l) (setValue 7))

/-- `SET 7,(HL)` (R255). -/
def exec_set_7_atHL (s : State) : Answer := .next (s.modifyBits .atHL (setValue 7))

/-- `SET 7,A` (R255). -/
def exec_set_7_a (s : State) : Answer := .next (s.modifyBits (.reg .a) (setValue 7))

end Sys2Proof.Machine
end

