-- ==== Sys2Proof/Machine/ControlFlow.lean ====
section
/-! DEFINITION. The meanings of the jumps, calls and returns (45_control_flow), one per row of the table, over the shared operations of Ops.lean. -/

namespace Sys2Proof.Machine

/-- `JR e` (R274). -/
def exec_jr_e (e : Byte) (s : State) : Answer := .next (s.jump (s.relative e))

/-- `JR NZ,e` (R275). -/
def exec_jr_nz_e (e : Byte) (s : State) : Answer := .next (s.jumpIf .nz (s.relative e))

/-- `JR Z,e` (R275). -/
def exec_jr_z_e (e : Byte) (s : State) : Answer := .next (s.jumpIf .z (s.relative e))

/-- `JR NC,e` (R275). -/
def exec_jr_nc_e (e : Byte) (s : State) : Answer := .next (s.jumpIf .nc (s.relative e))

/-- `JR C,e` (R275). -/
def exec_jr_c_e (e : Byte) (s : State) : Answer := .next (s.jumpIf .c (s.relative e))

/-- `RET NZ` (R279). -/
def exec_ret_nz (s : State) : Answer := .next (s.retIf .nz)

/-- `JP NZ,nn` (R272). -/
def exec_jp_nz_nn (nn : Word) (s : State) : Answer := .next (s.jumpIf .nz nn)

/-- `JP nn` (R271). -/
def exec_jp_nn (nn : Word) (s : State) : Answer := .next (s.jump nn)

/-- `CALL NZ,nn` (R277). -/
def exec_call_nz_nn (nn : Word) (s : State) : Answer := .next (s.callIf .nz nn)

/-- `RST 00h` (R281). -/
def exec_rst_00h (s : State) : Answer := .next (s.call 0x0000)

/-- `RET Z` (R279). -/
def exec_ret_z (s : State) : Answer := .next (s.retIf .z)

/-- `RET` (R278). -/
def exec_ret (s : State) : Answer := .next s.ret

/-- `JP Z,nn` (R272). -/
def exec_jp_z_nn (nn : Word) (s : State) : Answer := .next (s.jumpIf .z nn)

/-- `CALL Z,nn` (R277). -/
def exec_call_z_nn (nn : Word) (s : State) : Answer := .next (s.callIf .z nn)

/-- `CALL nn` (R276). -/
def exec_call_nn (nn : Word) (s : State) : Answer := .next (s.call nn)

/-- `RST 08h` (R281). -/
def exec_rst_08h (s : State) : Answer := .next (s.call 0x0008)

/-- `RET NC` (R279). -/
def exec_ret_nc (s : State) : Answer := .next (s.retIf .nc)

/-- `JP NC,nn` (R272). -/
def exec_jp_nc_nn (nn : Word) (s : State) : Answer := .next (s.jumpIf .nc nn)

/-- `CALL NC,nn` (R277). -/
def exec_call_nc_nn (nn : Word) (s : State) : Answer := .next (s.callIf .nc nn)

/-- `RST 10h` (R281). -/
def exec_rst_10h (s : State) : Answer := .next (s.call 0x0010)

/-- `RET C` (R279). -/
def exec_ret_c (s : State) : Answer := .next (s.retIf .c)

/-- `RETI` (R280). -/
def exec_reti (s : State) : Answer := .next s.returnFromInterrupt

/-- `JP C,nn` (R272). -/
def exec_jp_c_nn (nn : Word) (s : State) : Answer := .next (s.jumpIf .c nn)

/-- `CALL C,nn` (R277). -/
def exec_call_c_nn (nn : Word) (s : State) : Answer := .next (s.callIf .c nn)

/-- `RST 18h` (R281). -/
def exec_rst_18h (s : State) : Answer := .next (s.call 0x0018)

/-- `RST 20h` (R281). -/
def exec_rst_20h (s : State) : Answer := .next (s.call 0x0020)

/-- `JP HL` (R273). -/
def exec_jp_hl (s : State) : Answer := .next s.jumpHL

/-- `RST 28h` (R281). -/
def exec_rst_28h (s : State) : Answer := .next (s.call 0x0028)

/-- `RST 30h` (R281). -/
def exec_rst_30h (s : State) : Answer := .next (s.call 0x0030)

/-- `RST 38h` (R281). -/
def exec_rst_38h (s : State) : Answer := .next (s.call 0x0038)

end Sys2Proof.Machine
end

