-- ==== Sys2Proof/Machine/CpuControl.lean ====
section
/-! DEFINITION. The meanings of the CPU control instructions, the undefined opcodes and the prefix (46_cpu_control, 30_encoding R125), one per row of the table, over the shared operations of Ops.lean. -/

namespace Sys2Proof.Machine

/-- `NOP` (R290). -/
def exec_nop (s : State) : Answer := .next s

/-- `STOP` (R292): the clock stops, or the run is rejected under `STOP_POLICY = refuse`. -/
def exec_stop (_x : Byte) (s : State) : Answer :=
  match s.cfg.stopPolicy with
  | .asSpecified => .next s.stopClock
  | .refuse => .refused .stopOpcode

/-- `HALT` (R291). -/
def exec_halt (s : State) : Answer := .next s.halt

/-- The row `PREFIX CB` (30_encoding R125, log entry 5): the second byte is fetched and its operation executed (R133). -/
def exec_prefixCb (s : State) : Answer := .next (s.fetch8.2.prefixed s.fetch8.1)

/-- The undefined byte 0xD3 (R295). -/
def exec_undef_d3 (s : State) : Answer := s.undefinedOpcode 0xD3

/-- The undefined byte 0xDB (R295). -/
def exec_undef_db (s : State) : Answer := s.undefinedOpcode 0xDB

/-- The undefined byte 0xDD (R295). -/
def exec_undef_dd (s : State) : Answer := s.undefinedOpcode 0xDD

/-- The undefined byte 0xE3 (R295). -/
def exec_undef_e3 (s : State) : Answer := s.undefinedOpcode 0xE3

/-- The undefined byte 0xE4 (R295). -/
def exec_undef_e4 (s : State) : Answer := s.undefinedOpcode 0xE4

/-- The undefined byte 0xEB (R295). -/
def exec_undef_eb (s : State) : Answer := s.undefinedOpcode 0xEB

/-- The undefined byte 0xEC (R295). -/
def exec_undef_ec (s : State) : Answer := s.undefinedOpcode 0xEC

/-- The undefined byte 0xED (R295). -/
def exec_undef_ed (s : State) : Answer := s.undefinedOpcode 0xED

/-- `DI` (R293). -/
def exec_di (s : State) : Answer := .next s.disableInterrupts

/-- The undefined byte 0xF4 (R295). -/
def exec_undef_f4 (s : State) : Answer := s.undefinedOpcode 0xF4

/-- `EI` (R294). -/
def exec_ei (s : State) : Answer := .next s.enableInterrupts

/-- The undefined byte 0xFC (R295). -/
def exec_undef_fc (s : State) : Answer := s.undefinedOpcode 0xFC

/-- The undefined byte 0xFD (R295). -/
def exec_undef_fd (s : State) : Answer := s.undefinedOpcode 0xFD

end Sys2Proof.Machine
end

