-- ==== Sys2Proof/Machine/Load16.lean ====
section
/-! DEFINITION. The meanings of the 16-bit loads and the stack instructions (41_load16), one per row of the table, over the shared operations of Ops.lean. -/

namespace Sys2Proof.Machine

/-- `LD BC,nn` (R180). -/
def exec_ld_bc_nn (nn : Word) (s : State) : Answer := .next (s.setPairImm .bc nn)

/-- `LD (nn),SP` (R181). -/
def exec_ld_atNN_sp (nn : Word) (s : State) : Answer := .next (s.storeSp nn)

/-- `LD DE,nn` (R180). -/
def exec_ld_de_nn (nn : Word) (s : State) : Answer := .next (s.setPairImm .de nn)

/-- `LD HL,nn` (R180). -/
def exec_ld_hl_nn (nn : Word) (s : State) : Answer := .next (s.setPairImm .hl nn)

/-- `LD SP,nn` (R180). -/
def exec_ld_sp_nn (nn : Word) (s : State) : Answer := .next (s.setPairImm .sp nn)

/-- `POP BC` (R185). -/
def exec_pop_bc (s : State) : Answer := .next (s.popPair .bc)

/-- `PUSH BC` (R184). -/
def exec_push_bc (s : State) : Answer := .next (s.pushPair .bc)

/-- `POP DE` (R185). -/
def exec_pop_de (s : State) : Answer := .next (s.popPair .de)

/-- `PUSH DE` (R184). -/
def exec_push_de (s : State) : Answer := .next (s.pushPair .de)

/-- `POP HL` (R185). -/
def exec_pop_hl (s : State) : Answer := .next (s.popPair .hl)

/-- `PUSH HL` (R184). -/
def exec_push_hl (s : State) : Answer := .next (s.pushPair .hl)

/-- `POP AF` (R186). -/
def exec_pop_af (s : State) : Answer := .next (s.popPair .af)

/-- `PUSH AF` (R184). -/
def exec_push_af (s : State) : Answer := .next (s.pushPair .af)

/-- `LD HL,SP+e` (R183). -/
def exec_ld_hl_sp_e (e : Byte) (s : State) : Answer := .next (s.loadHLFromSp e)

/-- `LD SP,HL` (R182). -/
def exec_ld_sp_hl (s : State) : Answer := .next s.copyHLToSp

end Sys2Proof.Machine
end

