-- ==== Sys2Proof/Machine/Load8.lean ====
section
/-! DEFINITION. The meanings of the 8-bit loads (40_load8), one per row of the table, over the shared operations of Ops.lean. -/

namespace Sys2Proof.Machine

/-- `LD (BC),A` (R157). -/
def exec_ld_atBC_a (s : State) : Answer := .next (s.store s.cpu.bc s.cpu.a)

/-- `LD B,n` (R151). -/
def exec_ld_b_n (n : Byte) (s : State) : Answer := .next (s.setReg .b n)

/-- `LD A,(BC)` (R155). -/
def exec_ld_a_atBC (s : State) : Answer := .next (s.loadReg .a s.cpu.bc)

/-- `LD C,n` (R151). -/
def exec_ld_c_n (n : Byte) (s : State) : Answer := .next (s.setReg .c n)

/-- `LD (DE),A` (R158). -/
def exec_ld_atDE_a (s : State) : Answer := .next (s.store s.cpu.de s.cpu.a)

/-- `LD D,n` (R151). -/
def exec_ld_d_n (n : Byte) (s : State) : Answer := .next (s.setReg .d n)

/-- `LD A,(DE)` (R156). -/
def exec_ld_a_atDE (s : State) : Answer := .next (s.loadReg .a s.cpu.de)

/-- `LD E,n` (R151). -/
def exec_ld_e_n (n : Byte) (s : State) : Answer := .next (s.setReg .e n)

/-- `LD (HL+),A` (R167). -/
def exec_ld_atHLinc_a (s : State) : Answer := .next (s.storeAStep 1)

/-- `LD H,n` (R151). -/
def exec_ld_h_n (n : Byte) (s : State) : Answer := .next (s.setReg .h n)

/-- `LD A,(HL+)` (R165). -/
def exec_ld_a_atHLinc (s : State) : Answer := .next (s.loadAStep 1)

/-- `LD L,n` (R151). -/
def exec_ld_l_n (n : Byte) (s : State) : Answer := .next (s.setReg .l n)

/-- `LD (HL-),A` (R168). -/
def exec_ld_atHLdec_a (s : State) : Answer := .next (s.storeAStep (-1))

/-- `LD (HL),n` (R154). -/
def exec_ld_atHL_n (n : Byte) (s : State) : Answer := .next (s.store s.cpu.hl n)

/-- `LD A,(HL-)` (R166). -/
def exec_ld_a_atHLdec (s : State) : Answer := .next (s.loadAStep (-1))

/-- `LD A,n` (R151). -/
def exec_ld_a_n (n : Byte) (s : State) : Answer := .next (s.setReg .a n)

/-- `LD B,B` (R150). -/
def exec_ld_b_b (s : State) : Answer := .next (s.copyReg .b .b)

/-- `LD B,C` (R150). -/
def exec_ld_b_c (s : State) : Answer := .next (s.copyReg .b .c)

/-- `LD B,D` (R150). -/
def exec_ld_b_d (s : State) : Answer := .next (s.copyReg .b .d)

/-- `LD B,E` (R150). -/
def exec_ld_b_e (s : State) : Answer := .next (s.copyReg .b .e)

/-- `LD B,H` (R150). -/
def exec_ld_b_h (s : State) : Answer := .next (s.copyReg .b .h)

/-- `LD B,L` (R150). -/
def exec_ld_b_l (s : State) : Answer := .next (s.copyReg .b .l)

/-- `LD B,(HL)` (R152). -/
def exec_ld_b_atHL (s : State) : Answer := .next (s.loadReg .b s.cpu.hl)

/-- `LD B,A` (R150). -/
def exec_ld_b_a (s : State) : Answer := .next (s.copyReg .b .a)

/-- `LD C,B` (R150). -/
def exec_ld_c_b (s : State) : Answer := .next (s.copyReg .c .b)

/-- `LD C,C` (R150). -/
def exec_ld_c_c (s : State) : Answer := .next (s.copyReg .c .c)

/-- `LD C,D` (R150). -/
def exec_ld_c_d (s : State) : Answer := .next (s.copyReg .c .d)

/-- `LD C,E` (R150). -/
def exec_ld_c_e (s : State) : Answer := .next (s.copyReg .c .e)

/-- `LD C,H` (R150). -/
def exec_ld_c_h (s : State) : Answer := .next (s.copyReg .c .h)

/-- `LD C,L` (R150). -/
def exec_ld_c_l (s : State) : Answer := .next (s.copyReg .c .l)

/-- `LD C,(HL)` (R152). -/
def exec_ld_c_atHL (s : State) : Answer := .next (s.loadReg .c s.cpu.hl)

/-- `LD C,A` (R150). -/
def exec_ld_c_a (s : State) : Answer := .next (s.copyReg .c .a)

/-- `LD D,B` (R150). -/
def exec_ld_d_b (s : State) : Answer := .next (s.copyReg .d .b)

/-- `LD D,C` (R150). -/
def exec_ld_d_c (s : State) : Answer := .next (s.copyReg .d .c)

/-- `LD D,D` (R150). -/
def exec_ld_d_d (s : State) : Answer := .next (s.copyReg .d .d)

/-- `LD D,E` (R150). -/
def exec_ld_d_e (s : State) : Answer := .next (s.copyReg .d .e)

/-- `LD D,H` (R150). -/
def exec_ld_d_h (s : State) : Answer := .next (s.copyReg .d .h)

/-- `LD D,L` (R150). -/
def exec_ld_d_l (s : State) : Answer := .next (s.copyReg .d .l)

/-- `LD D,(HL)` (R152). -/
def exec_ld_d_atHL (s : State) : Answer := .next (s.loadReg .d s.cpu.hl)

/-- `LD D,A` (R150). -/
def exec_ld_d_a (s : State) : Answer := .next (s.copyReg .d .a)

/-- `LD E,B` (R150). -/
def exec_ld_e_b (s : State) : Answer := .next (s.copyReg .e .b)

/-- `LD E,C` (R150). -/
def exec_ld_e_c (s : State) : Answer := .next (s.copyReg .e .c)

/-- `LD E,D` (R150). -/
def exec_ld_e_d (s : State) : Answer := .next (s.copyReg .e .d)

/-- `LD E,E` (R150). -/
def exec_ld_e_e (s : State) : Answer := .next (s.copyReg .e .e)

/-- `LD E,H` (R150). -/
def exec_ld_e_h (s : State) : Answer := .next (s.copyReg .e .h)

/-- `LD E,L` (R150). -/
def exec_ld_e_l (s : State) : Answer := .next (s.copyReg .e .l)

/-- `LD E,(HL)` (R152). -/
def exec_ld_e_atHL (s : State) : Answer := .next (s.loadReg .e s.cpu.hl)

/-- `LD E,A` (R150). -/
def exec_ld_e_a (s : State) : Answer := .next (s.copyReg .e .a)

/-- `LD H,B` (R150). -/
def exec_ld_h_b (s : State) : Answer := .next (s.copyReg .h .b)

/-- `LD H,C` (R150). -/
def exec_ld_h_c (s : State) : Answer := .next (s.copyReg .h .c)

/-- `LD H,D` (R150). -/
def exec_ld_h_d (s : State) : Answer := .next (s.copyReg .h .d)

/-- `LD H,E` (R150). -/
def exec_ld_h_e (s : State) : Answer := .next (s.copyReg .h .e)

/-- `LD H,H` (R150). -/
def exec_ld_h_h (s : State) : Answer := .next (s.copyReg .h .h)

/-- `LD H,L` (R150). -/
def exec_ld_h_l (s : State) : Answer := .next (s.copyReg .h .l)

/-- `LD H,(HL)` (R152). -/
def exec_ld_h_atHL (s : State) : Answer := .next (s.loadReg .h s.cpu.hl)

/-- `LD H,A` (R150). -/
def exec_ld_h_a (s : State) : Answer := .next (s.copyReg .h .a)

/-- `LD L,B` (R150). -/
def exec_ld_l_b (s : State) : Answer := .next (s.copyReg .l .b)

/-- `LD L,C` (R150). -/
def exec_ld_l_c (s : State) : Answer := .next (s.copyReg .l .c)

/-- `LD L,D` (R150). -/
def exec_ld_l_d (s : State) : Answer := .next (s.copyReg .l .d)

/-- `LD L,E` (R150). -/
def exec_ld_l_e (s : State) : Answer := .next (s.copyReg .l .e)

/-- `LD L,H` (R150). -/
def exec_ld_l_h (s : State) : Answer := .next (s.copyReg .l .h)

/-- `LD L,L` (R150). -/
def exec_ld_l_l (s : State) : Answer := .next (s.copyReg .l .l)

/-- `LD L,(HL)` (R152). -/
def exec_ld_l_atHL (s : State) : Answer := .next (s.loadReg .l s.cpu.hl)

/-- `LD L,A` (R150). -/
def exec_ld_l_a (s : State) : Answer := .next (s.copyReg .l .a)

/-- `LD (HL),B` (R153). -/
def exec_ld_atHL_b (s : State) : Answer := .next (s.store s.cpu.hl (s.cpu.get .b))

/-- `LD (HL),C` (R153). -/
def exec_ld_atHL_c (s : State) : Answer := .next (s.store s.cpu.hl (s.cpu.get .c))

/-- `LD (HL),D` (R153). -/
def exec_ld_atHL_d (s : State) : Answer := .next (s.store s.cpu.hl (s.cpu.get .d))

/-- `LD (HL),E` (R153). -/
def exec_ld_atHL_e (s : State) : Answer := .next (s.store s.cpu.hl (s.cpu.get .e))

/-- `LD (HL),H` (R153). -/
def exec_ld_atHL_h (s : State) : Answer := .next (s.store s.cpu.hl (s.cpu.get .h))

/-- `LD (HL),L` (R153). -/
def exec_ld_atHL_l (s : State) : Answer := .next (s.store s.cpu.hl (s.cpu.get .l))

/-- `LD (HL),A` (R153). -/
def exec_ld_atHL_a (s : State) : Answer := .next (s.store s.cpu.hl (s.cpu.get .a))

/-- `LD A,B` (R150). -/
def exec_ld_a_b (s : State) : Answer := .next (s.copyReg .a .b)

/-- `LD A,C` (R150). -/
def exec_ld_a_c (s : State) : Answer := .next (s.copyReg .a .c)

/-- `LD A,D` (R150). -/
def exec_ld_a_d (s : State) : Answer := .next (s.copyReg .a .d)

/-- `LD A,E` (R150). -/
def exec_ld_a_e (s : State) : Answer := .next (s.copyReg .a .e)

/-- `LD A,H` (R150). -/
def exec_ld_a_h (s : State) : Answer := .next (s.copyReg .a .h)

/-- `LD A,L` (R150). -/
def exec_ld_a_l (s : State) : Answer := .next (s.copyReg .a .l)

/-- `LD A,(HL)` (R152). -/
def exec_ld_a_atHL (s : State) : Answer := .next (s.loadReg .a s.cpu.hl)

/-- `LD A,A` (R150). -/
def exec_ld_a_a (s : State) : Answer := .next (s.copyReg .a .a)

/-- `LDH (n),A` (R164). -/
def exec_ldh_atN_a (n : Byte) (s : State) : Answer := .next (s.store (ioPage n) s.cpu.a)

/-- `LDH (C),A` (R162). -/
def exec_ldh_atC_a (s : State) : Answer := .next (s.store (ioPage s.cpu.c) s.cpu.a)

/-- `LD (nn),A` (R160). -/
def exec_ld_atNN_a (nn : Word) (s : State) : Answer := .next (s.store nn s.cpu.a)

/-- `LDH A,(n)` (R163). -/
def exec_ldh_a_atN (n : Byte) (s : State) : Answer := .next (s.loadReg .a (ioPage n))

/-- `LDH A,(C)` (R161). -/
def exec_ldh_a_atC (s : State) : Answer := .next (s.loadReg .a (ioPage s.cpu.c))

/-- `LD A,(nn)` (R159). -/
def exec_ld_a_atNN (nn : Word) (s : State) : Answer := .next (s.loadReg .a nn)

end Sys2Proof.Machine
end

