-- ==== Sys2Proof/Machine/RotateShift.lean ====
section
/-! DEFINITION. The meanings of the rotates and shifts (44_rotate_shift_bit R240 to R252), one per row of the table, over the shared operations of Ops.lean. -/

namespace Sys2Proof.Machine

/-- `RLCA` (R240). -/
def exec_rlca (s : State) : Answer := .next (s.setAF (accRotateResult .rlc s.cpu.a s.cpu.f))

/-- `RRCA` (R241). -/
def exec_rrca (s : State) : Answer := .next (s.setAF (accRotateResult .rrc s.cpu.a s.cpu.f))

/-- `RLA` (R242). -/
def exec_rla (s : State) : Answer := .next (s.setAF (accRotateResult .rl s.cpu.a s.cpu.f))

/-- `RRA` (R243). -/
def exec_rra (s : State) : Answer := .next (s.setAF (accRotateResult .rr s.cpu.a s.cpu.f))

/-- `RLC B` (R245). -/
def exec_rlc_b (s : State) : Answer := .next (s.modify (.reg .b) (shiftResult .rlc))

/-- `RLC C` (R245). -/
def exec_rlc_c (s : State) : Answer := .next (s.modify (.reg .c) (shiftResult .rlc))

/-- `RLC D` (R245). -/
def exec_rlc_d (s : State) : Answer := .next (s.modify (.reg .d) (shiftResult .rlc))

/-- `RLC E` (R245). -/
def exec_rlc_e (s : State) : Answer := .next (s.modify (.reg .e) (shiftResult .rlc))

/-- `RLC H` (R245). -/
def exec_rlc_h (s : State) : Answer := .next (s.modify (.reg .h) (shiftResult .rlc))

/-- `RLC L` (R245). -/
def exec_rlc_l (s : State) : Answer := .next (s.modify (.reg .l) (shiftResult .rlc))

/-- `RLC (HL)` (R245). -/
def exec_rlc_atHL (s : State) : Answer := .next (s.modify .atHL (shiftResult .rlc))

/-- `RLC A` (R245). -/
def exec_rlc_a (s : State) : Answer := .next (s.modify (.reg .a) (shiftResult .rlc))

/-- `RRC B` (R246). -/
def exec_rrc_b (s : State) : Answer := .next (s.modify (.reg .b) (shiftResult .rrc))

/-- `RRC C` (R246). -/
def exec_rrc_c (s : State) : Answer := .next (s.modify (.reg .c) (shiftResult .rrc))

/-- `RRC D` (R246). -/
def exec_rrc_d (s : State) : Answer := .next (s.modify (.reg .d) (shiftResult .rrc))

/-- `RRC E` (R246). -/
def exec_rrc_e (s : State) : Answer := .next (s.modify (.reg .e) (shiftResult .rrc))

/-- `RRC H` (R246). -/
def exec_rrc_h (s : State) : Answer := .next (s.modify (.reg .h) (shiftResult .rrc))

/-- `RRC L` (R246). -/
def exec_rrc_l (s : State) : Answer := .next (s.modify (.reg .l) (shiftResult .rrc))

/-- `RRC (HL)` (R246). -/
def exec_rrc_atHL (s : State) : Answer := .next (s.modify .atHL (shiftResult .rrc))

/-- `RRC A` (R246). -/
def exec_rrc_a (s : State) : Answer := .next (s.modify (.reg .a) (shiftResult .rrc))

/-- `RL B` (R247). -/
def exec_rl_b (s : State) : Answer := .next (s.modify (.reg .b) (shiftResult .rl))

/-- `RL C` (R247). -/
def exec_rl_c (s : State) : Answer := .next (s.modify (.reg .c) (shiftResult .rl))

/-- `RL D` (R247). -/
def exec_rl_d (s : State) : Answer := .next (s.modify (.reg .d) (shiftResult .rl))

/-- `RL E` (R247). -/
def exec_rl_e (s : State) : Answer := .next (s.modify (.reg .e) (shiftResult .rl))

/-- `RL H` (R247). -/
def exec_rl_h (s : State) : Answer := .next (s.modify (.reg .h) (shiftResult .rl))

/-- `RL L` (R247). -/
def exec_rl_l (s : State) : Answer := .next (s.modify (.reg .l) (shiftResult .rl))

/-- `RL (HL)` (R247). -/
def exec_rl_atHL (s : State) : Answer := .next (s.modify .atHL (shiftResult .rl))

/-- `RL A` (R247). -/
def exec_rl_a (s : State) : Answer := .next (s.modify (.reg .a) (shiftResult .rl))

/-- `RR B` (R248). -/
def exec_rr_b (s : State) : Answer := .next (s.modify (.reg .b) (shiftResult .rr))

/-- `RR C` (R248). -/
def exec_rr_c (s : State) : Answer := .next (s.modify (.reg .c) (shiftResult .rr))

/-- `RR D` (R248). -/
def exec_rr_d (s : State) : Answer := .next (s.modify (.reg .d) (shiftResult .rr))

/-- `RR E` (R248). -/
def exec_rr_e (s : State) : Answer := .next (s.modify (.reg .e) (shiftResult .rr))

/-- `RR H` (R248). -/
def exec_rr_h (s : State) : Answer := .next (s.modify (.reg .h) (shiftResult .rr))

/-- `RR L` (R248). -/
def exec_rr_l (s : State) : Answer := .next (s.modify (.reg .l) (shiftResult .rr))

/-- `RR (HL)` (R248). -/
def exec_rr_atHL (s : State) : Answer := .next (s.modify .atHL (shiftResult .rr))

/-- `RR A` (R248). -/
def exec_rr_a (s : State) : Answer := .next (s.modify (.reg .a) (shiftResult .rr))

/-- `SLA B` (R249). -/
def exec_sla_b (s : State) : Answer := .next (s.modify (.reg .b) (shiftResult .sla))

/-- `SLA C` (R249). -/
def exec_sla_c (s : State) : Answer := .next (s.modify (.reg .c) (shiftResult .sla))

/-- `SLA D` (R249). -/
def exec_sla_d (s : State) : Answer := .next (s.modify (.reg .d) (shiftResult .sla))

/-- `SLA E` (R249). -/
def exec_sla_e (s : State) : Answer := .next (s.modify (.reg .e) (shiftResult .sla))

/-- `SLA H` (R249). -/
def exec_sla_h (s : State) : Answer := .next (s.modify (.reg .h) (shiftResult .sla))

/-- `SLA L` (R249). -/
def exec_sla_l (s : State) : Answer := .next (s.modify (.reg .l) (shiftResult .sla))

/-- `SLA (HL)` (R249). -/
def exec_sla_atHL (s : State) : Answer := .next (s.modify .atHL (shiftResult .sla))

/-- `SLA A` (R249). -/
def exec_sla_a (s : State) : Answer := .next (s.modify (.reg .a) (shiftResult .sla))

/-- `SRA B` (R250). -/
def exec_sra_b (s : State) : Answer := .next (s.modify (.reg .b) (shiftResult .sra))

/-- `SRA C` (R250). -/
def exec_sra_c (s : State) : Answer := .next (s.modify (.reg .c) (shiftResult .sra))

/-- `SRA D` (R250). -/
def exec_sra_d (s : State) : Answer := .next (s.modify (.reg .d) (shiftResult .sra))

/-- `SRA E` (R250). -/
def exec_sra_e (s : State) : Answer := .next (s.modify (.reg .e) (shiftResult .sra))

/-- `SRA H` (R250). -/
def exec_sra_h (s : State) : Answer := .next (s.modify (.reg .h) (shiftResult .sra))

/-- `SRA L` (R250). -/
def exec_sra_l (s : State) : Answer := .next (s.modify (.reg .l) (shiftResult .sra))

/-- `SRA (HL)` (R250). -/
def exec_sra_atHL (s : State) : Answer := .next (s.modify .atHL (shiftResult .sra))

/-- `SRA A` (R250). -/
def exec_sra_a (s : State) : Answer := .next (s.modify (.reg .a) (shiftResult .sra))

/-- `SWAP B` (R251). -/
def exec_swap_b (s : State) : Answer := .next (s.modify (.reg .b) (shiftResult .swap))

/-- `SWAP C` (R251). -/
def exec_swap_c (s : State) : Answer := .next (s.modify (.reg .c) (shiftResult .swap))

/-- `SWAP D` (R251). -/
def exec_swap_d (s : State) : Answer := .next (s.modify (.reg .d) (shiftResult .swap))

/-- `SWAP E` (R251). -/
def exec_swap_e (s : State) : Answer := .next (s.modify (.reg .e) (shiftResult .swap))

/-- `SWAP H` (R251). -/
def exec_swap_h (s : State) : Answer := .next (s.modify (.reg .h) (shiftResult .swap))

/-- `SWAP L` (R251). -/
def exec_swap_l (s : State) : Answer := .next (s.modify (.reg .l) (shiftResult .swap))

/-- `SWAP (HL)` (R251). -/
def exec_swap_atHL (s : State) : Answer := .next (s.modify .atHL (shiftResult .swap))

/-- `SWAP A` (R251). -/
def exec_swap_a (s : State) : Answer := .next (s.modify (.reg .a) (shiftResult .swap))

/-- `SRL B` (R252). -/
def exec_srl_b (s : State) : Answer := .next (s.modify (.reg .b) (shiftResult .srl))

/-- `SRL C` (R252). -/
def exec_srl_c (s : State) : Answer := .next (s.modify (.reg .c) (shiftResult .srl))

/-- `SRL D` (R252). -/
def exec_srl_d (s : State) : Answer := .next (s.modify (.reg .d) (shiftResult .srl))

/-- `SRL E` (R252). -/
def exec_srl_e (s : State) : Answer := .next (s.modify (.reg .e) (shiftResult .srl))

/-- `SRL H` (R252). -/
def exec_srl_h (s : State) : Answer := .next (s.modify (.reg .h) (shiftResult .srl))

/-- `SRL L` (R252). -/
def exec_srl_l (s : State) : Answer := .next (s.modify (.reg .l) (shiftResult .srl))

/-- `SRL (HL)` (R252). -/
def exec_srl_atHL (s : State) : Answer := .next (s.modify .atHL (shiftResult .srl))

/-- `SRL A` (R252). -/
def exec_srl_a (s : State) : Answer := .next (s.modify (.reg .a) (shiftResult .srl))

end Sys2Proof.Machine
end

