-- ==== Sys2Proof/Machine/Fetch.lean ====
section
/-! DEFINITION. Fetching an instruction (30_encoding R122 to R125). The opcode fetch is the step's first M-cycle; each operand byte takes one
more, but the ignored byte of STOP takes no time (70_reset R520). -/

namespace Sys2Proof.Machine

/-- The opcode fetch (30_encoding R122): with the halt bug set PC does not move, once. -/
def State.fetchOpcode (s : State) : Byte × State :=
  (s.read s.cpu.pc,
   s.setCpu { s.cpu with haltBug := false, pc := if s.cpu.haltBug then s.cpu.pc else s.cpu.pc + 1 })

/-- `fetch16()` (R124): the low byte first. -/
def State.fetch16 (s : State) : Word × State :=
  (wordOf s.fetch8.2.fetch8.1 s.fetch8.1, s.fetch8.2.fetch8.2)

/-- The operand bytes of an opcode, and the instruction they make (R123 to R126). -/
def State.fetchOperands (s : State) (e : Entry) : Instr × State :=
  match e with
  | .one i => (i, s)
  | .two f => (f s.fetch8.1, s.fetch8.2)
  | .stop => (.stop s.fetchByte.1, s.fetchByte.2)
  | .three f => (f s.fetch16.1, s.fetch16.2)
  | .prefixCb => (lookupCb s.fetch8.1, s.fetch8.2)

/-- The instruction at PC, and the state with PC past it (R122 to R126). -/
def State.fetchInstr (s : State) : Instr × State := s.fetchOpcode.2.fetchOperands (lookup s.fetchOpcode.1)

end Sys2Proof.Machine
end

