-- ==== Sys2Proof/Machine/Control.lean ====
section
/-! DEFINITION. The step operation (60_exceptions R310) and the place where `State.withFetchWord` puts an instruction. -/

namespace Sys2Proof.Machine

/-- A step's first M-cycle begins: 4 T-cycles consumed so far (70_reset R520, R526). -/
def State.beginStep (s : State) : State := { s with cycles := 4 }

/-- The delayed effect of EI (R310 step 5). -/
def State.applyEi (s : State) : State :=
  s.setCpu { s.cpu with ime := s.cpu.ime || s.cpu.eiPending, eiPending := false }

/-- One instruction fetched and executed (R310 step 6), then the devices advanced (step 7). -/
def State.runInstr (s : State) : Answer :=
  Answer.andThen (exec s.fetchInstr.1 s.fetchInstr.2) State.finish

/-- A step of a CPU that is neither stopped nor idling (R310 steps 4 to 7), the source pending at its start being given. -/
def State.runAwake (s : State) (pending : Option Source) : Answer :=
  match s.cpu.ime, pending with
  | true, some k => .next (s.takeInterrupt k).finish
  | _, _ => s.applyEi.runInstr

/-- `step()` (R310). -/
def stepOnce (s : State) : Answer :=
  if s.cpu.stopped then .next s.beginStep
  else if s.cpu.halted && s.ints.pending.isNone then .next s.beginStep.finish
  else (s.beginStep.setCpu { s.cpu with halted := false }).runAwake s.ints.pending

/-- A byte put into the storage that is read at an address, where that storage is ROM, work RAM or high RAM: no device changes those (log entry 7). -/
def State.poke (s : State) (a : Word) (v : Byte) : State :=
  match regionOf a with
  | .rom => { s with cart := { s.cart with rom := s.cart.rom.write (s.cart.romOffset a.toNat) v } }
  | .wram => { s with wram := s.wram.write (a.toNat - 0xC000) v }
  | .echo => { s with wram := s.wram.write (a.toNat - 0xE000) v }
  | .hram => { s with hram := s.hram.write (a.toNat - 0xFF80) v }
  | _ => s

/-- Bytes put at consecutive addresses. -/
def State.pokeAll (s : State) (a : Word) : List Byte → State
  | [] => s
  | v :: vs => (s.poke a v).pokeAll (a + 1) vs

/-- Whether an address is in ROM, work RAM or high RAM. -/
def isPlainStorage (a : Word) : Bool :=
  match regionOf a with
  | .rom => true
  | .wram => true
  | .echo => true
  | .hram => true
  | _ => false

/-- Whether bytes stand at consecutive addresses, all in plain storage. -/
def State.holdsBytes (s : State) (a : Word) : List Byte → Bool
  | [] => true
  | v :: vs => isPlainStorage a && decide (s.read a = v) && s.holdsBytes (a + 1) vs

/-- The CPU awake and with no interrupt to take, so that the next step fetches at PC. -/
def State.readyToFetch (s : State) : State :=
  s.setCpu
    { s.cpu with stopped := false, halted := false, haltBug := false, ime := s.cpu.ime && s.ints.pending.isNone }

/-- Bytes placed where the next step fetches: at PC, or in work RAM with PC moved there when PC is not in plain storage. -/
def State.placeProgram (s : State) (bytes : List Byte) : State :=
  let t := s.readyToFetch.pokeAll s.cpu.pc bytes
  if t.holdsBytes s.cpu.pc bytes then t else (s.readyToFetch.setPc 0xC000).pokeAll 0xC000 bytes

end Sys2Proof.Machine
end

