-- ==== Sys2Proof/Machine/Step.lean ====
section
/-! DEFINITION. The step of the machine, and how an instruction is placed for it to run. -/

namespace Sys2Proof.Machine

/-- `step() -> cycles` (60_exceptions R310); the cycles are left in `State.cycles` (log entry 4). -/
def step (s : State) : Host.Outcome State Fault Refusal := stepOnce s

/-- The state with a table word stored where `step` fetches its next instruction (log entries 6 and 7). -/
def State.withFetchWord (s : State) (nbits w : Nat) : State := s.placeProgram (tableBytes nbits w)

end Sys2Proof.Machine
end

