-- ==== Sys2Proof/Machine/HostCalls.lean ====
section
/-! DEFINITION. The host's operations beside `step` (70_reset R500 to R506), each made between two steps (log entry 17). -/

namespace Sys2Proof.Machine

/-- The one error of the host interface (20_memory R111). -/
inductive LoadError
  | invalidRom
  deriving DecidableEq, Repr

/-- A header byte of the image (20_memory R101). -/
def headerByte (rom : List Byte) (offset : Nat) : Byte := rom.getD offset 0

/-- The declared ROM size in bytes for a size code 0..8 (R102). -/
def declaredRomSize (code : Nat) : Nat := 32768 <<< code

/-- The declared RAM size in bytes for a size code 0..5 (R102). -/
def declaredRamSize (code : Nat) : Nat :=
  match code with
  | 1 => 2048
  | 2 => 8192
  | 3 => 32768
  | 4 => 131072
  | 5 => 65536
  | _ => 0

/-- Whether `load_cartridge` accepts the image (R102). -/
def validImage (rom : List Byte) : Bool :=
  decide (0x150 ≤ rom.length) && decide ((headerByte rom 0x148).toNat ≤ 8) && decide ((headerByte rom 0x149).toNat ≤ 5) &&
    decide (declaredRomSize (headerByte rom 0x148).toNat ≤ rom.length)

/-- The controller of the image; every type but 0x01 to 0x03 is the fixed-bank fallback or no controller (R103). -/
def imageKind (rom : List Byte) : CartKind :=
  let t := (headerByte rom 0x147).toNat
  if 1 ≤ t ∧ t ≤ 3 then .mbc1 else .none

/-- The RAM size the cartridge takes: the declared one for types 0x02 and 0x03, else 0 (R104, R105; log entry 16). -/
def imageRamSize (rom : List Byte) : Nat :=
  let t := (headerByte rom 0x147).toNat
  if t = 2 ∨ t = 3 then declaredRamSize (headerByte rom 0x149).toNat else 0

/-- The cartridge RAM after loading: the save blob when its length is the RAM size, else zeros (R102, 10_state R42). -/
def initialRam (size : Nat) (save : Option (List Byte)) : Memory :=
  match save with
  | some blob => if blob.length = size then Memory.ofBytes blob 0 else []
  | none => []

/-- The cartridge of an accepted image; bytes beyond the declared size are ignored (R102). -/
def imageCartridge (rom : List Byte) (save : Option (List Byte)) : Cartridge where
  kind := imageKind rom
  battery := decide (headerByte rom 0x147 = 0x03)
  romSize := declaredRomSize (headerByte rom 0x148).toNat
  ramSize := imageRamSize rom
  rom := Memory.ofBytes (rom.take (declaredRomSize (headerByte rom 0x148).toNat)) 0
  ram := initialRam (imageRamSize rom) save
  mbc := Mbc.reset

/-- `load_cartridge(rom, save)` (70_reset R501): the whole state anew, or `InvalidRom`, and then the host's machine stays as it was. -/
def loadCartridge (cfg : Config) (rom : List Byte) (save : Option (List Byte)) : Except LoadError State :=
  if validImage rom then .ok (State.powerOn cfg (imageCartridge rom save)) else .error .invalidRom

/-- `frame_ready()` (70_reset R503, 61_ppu R405): the last completed frame, once. -/
def State.takeFrame (s : State) : Option Frame × State :=
  (if s.ppu.frameReady then some s.ppu.front else none, { s with ppu := { s.ppu with frameReady := false } })

/-- `audio_samples()` (70_reset R504, 62_apu R480): the whole queue, oldest first, which is left empty. -/
def State.drainSamples (s : State) : List Sample × State := (s.apu.queue, { s with apu := { s.apu with queue := [] } })

/-- `set_joypad_state(button_mask)` (70_reset R505, 60_exceptions R350, R352). -/
def State.setJoypad (s : State) (mask : Byte) : State :=
  { s with joypad := { s.joypad with buttons := mask } }.joypadEdgeCheck

/-- `save_ram()` (70_reset R506, 20_memory R110): the whole cartridge RAM of a battery cartridge. -/
def State.saveRam (s : State) : Option (List Byte) :=
  if s.cart.battery && decide (0 < s.cart.ramSize) then some (s.cart.ram.toBytes s.cart.ramSize) else none

end Sys2Proof.Machine
end

