-- ==== Sys2Proof/Machine/HostRun.lean ====
section
/-! DEFINITION. The run of the block: the sequence of the host's calls is its input (70_reset R500, log entry 17). -/

namespace Sys2Proof.Machine

/-- The six operations of the host (70_reset R500). -/
inductive HostCall
  | loadCartridge (rom : List Byte) (save : Option (List Byte))
  | step
  | frameReady
  | audioSamples
  | setJoypadState (mask : Byte)
  | saveRam
  deriving DecidableEq, Repr

/-- What a call answers. `noMachine` stands for a call that is not defined, before the first successful load (R500); `refused` for a
step that a policy parameter rejects (46_cpu_control R292, R295). -/
inductive HostAnswer
  | loaded
  | invalidRom
  | cycles (n : Nat)
  | frame (f : Option Frame)
  | samples (q : List Sample)
  | joypadSet
  | ram (bytes : Option (List Byte))
  | refused (r : Refusal)
  | noMachine
  deriving DecidableEq, Repr

/-- `load_cartridge` on the block: the state anew, or `InvalidRom` and the block as it was (70_reset R501). -/
def hostLoad (cfg : Config) (block : Option State) (rom : List Byte) (save : Option (List Byte)) : HostAnswer × Option State :=
  match loadCartridge cfg rom save with
  | .ok t => (.loaded, some t)
  | .error .invalidRom => (.invalidRom, block)

/-- `step()` on a running machine (R502). -/
def State.hostStep (s : State) : HostAnswer × Option State :=
  match Sys2Proof.Machine.step s with
  | .next t => (.cycles t.cycles, some t)
  | .refused r => (.refused r, some s)

/-- A call on a running machine (R501 to R506). -/
def State.hostCall (cfg : Config) (s : State) : HostCall → HostAnswer × Option State
  | .loadCartridge rom save => hostLoad cfg (some s) rom save
  | .step => s.hostStep
  | .frameReady => (.frame s.takeFrame.1, some s.takeFrame.2)
  | .audioSamples => (.samples s.drainSamples.1, some s.drainSamples.2)
  | .setJoypadState mask => (.joypadSet, some (s.setJoypad mask))
  | .saveRam => (.ram s.saveRam, some s)

/-- A call on the block, which holds no state before the first successful load (R500). -/
def hostCall (cfg : Config) (block : Option State) (call : HostCall) : HostAnswer × Option State :=
  match block with
  | some s => s.hostCall cfg call
  | none =>
    match call with
    | .loadCartridge rom save => hostLoad cfg none rom save
    | .step => (.noMachine, none)
    | .frameReady => (.noMachine, none)
    | .audioSamples => (.noMachine, none)
    | .setJoypadState _ => (.noMachine, none)
    | .saveRam => (.noMachine, none)

/-- Whether an answer ends the run: an undefined call, or an execution the parameters reject. -/
def HostAnswer.ends : HostAnswer → Bool
  | .refused _ => true
  | .noMachine => true
  | .loaded => false
  | .invalidRom => false
  | .cycles _ => false
  | .frame _ => false
  | .samples _ => false
  | .joypadSet => false
  | .ram _ => false

/-- A run: the calls in order, each atomic, with their answers and what the block holds at the end (R500). -/
def runHost (cfg : Config) : Option State → List HostCall → List HostAnswer × Option State
  | block, [] => ([], block)
  | block, call :: calls =>
    let r := hostCall cfg block call
    if r.1.ends then ([r.1], r.2)
    else
      let rest := runHost cfg r.2 calls
      (r.1 :: rest.1, rest.2)

end Sys2Proof.Machine
end

