-- ==== Sys2Proof/Safety.lean ====
section
/-! DEFINITION. What a safe answer is; the invariant every step keeps, that is the ranges and relations the spec states for the state; and the words
the statements are written in: the columns of the opcode table, the operand codes, the registers and addresses an instruction writes. -/

namespace Sys2Proof.Machine

/-- A safe answer: the machine goes on (60_exceptions R312, R313). -/
def Answer.Completes (o : Answer) : Prop := ∃ t, o = .next t

/-- The lower nibble of F is 0 (10_state R24), and the halt bug waits only while interrupts are off (60_exceptions R326). -/
structure Cpu.Ok (c : Cpu) : Prop where
  flags : maskF c.f = c.f
  haltBug : c.haltBug = true → c.ime = false ∧ c.eiPending = false

/-- `reload_in` is none or 1..4, and `last_sig` is the present input of the edge detector (10_state R33, 60_exceptions R331). -/
structure Timer.Ok (t : Timer) : Prop where
  reload : ∀ n, t.reloadIn = some n → 1 ≤ n ∧ n ≤ 4
  lastSig : t.lastSig = t.signal

/-- `p1_prev` is the present value of the input lines (60_exceptions R352). -/
structure Joypad.Ok (j : Joypad) : Prop where
  prev : j.p1Prev = j.lines

/-- The mode 61_ppu R376 gives for a line and a dot. -/
def scheduledMode (mode3Len ly dot : Nat) : PpuMode :=
  if 144 ≤ ly then .vblank
  else if dot < 80 then .oamScan
  else if dot < 80 + mode3Len then .transfer
  else .hblank

/-- A memory in canonical form inside an array of `size` bytes. -/
structure Memory.Ok (m : Memory) (size : Nat) : Prop where
  wf : m.wf = true
  below : m.below size = true

/-- The ranges of 61_ppu R361, the schedule of R376 while the LCD is on, the held values of R382 while it is off, and `stat_line` as the present
STAT signal (R390). -/
structure Ppu.Ok (mode3Len : Nat) (p : Ppu) : Prop where
  ly : p.ly ≤ 153
  dot : p.dot ≤ 455
  on : p.lcdOn = true → p.mode = scheduledMode mode3Len p.ly p.dot
  off : p.lcdOn = false → p.ly = 0 ∧ p.dot = 0 ∧ p.mode = .hblank
  statLine : p.statLine = p.statSignal
  window : p.windowLine ≤ 144 ∧ p.windowLine ≤ p.ly + 1
  windowBefore : p.dot < 80 + mode3Len → p.windowLine ≤ p.ly
  vram : p.vram.Ok 0x2000
  oam : p.oam.Ok 160

/-- An envelope's countdown is at most 8 (62_apu R421). -/
structure Envelope.Ok (e : Envelope) : Prop where
  timer : e.timer ≤ 8

/-- The ranges of a pulse channel (62_apu R421). -/
structure Pulse.Ok (c : Pulse) : Prop where
  len : c.len ≤ 64
  timer : 1 ≤ c.timer
  env : c.env.Ok

/-- The ranges of the wave channel (62_apu R421). -/
structure Wave.Ok (c : Wave) : Prop where
  len : c.len ≤ 256
  timer : 1 ≤ c.timer
  wave : c.wave.Ok 16

/-- The ranges of the noise channel (62_apu R421). -/
structure Noise.Ok (c : Noise) : Prop where
  len : c.len ≤ 64
  timer : 1 ≤ c.timer
  env : c.env.Ok

/-- The ranges of the APU (62_apu R421), and every channel off while the power is off (R444). -/
structure Apu.Ok (samplePeriod : Nat) (u : Apu) : Prop where
  fsCounter : u.fsCounter < 8192
  sampleCounter : u.sampleCounter < samplePeriod
  sweepTimer : u.sweep.timer ≤ 8
  ch1 : u.ch1.Ok
  ch2 : u.ch2.Ok
  ch3 : u.ch3.Ok
  ch4 : u.ch4.Ok
  off : u.on = false → u.ch1.on = false ∧ u.ch2.on = false ∧ u.ch3.on = false ∧ u.ch4.on = false

/-- The image and the RAM lie inside their declared sizes, and the MBC1 bank register is never 0 (20_memory R102, R106). -/
structure Cartridge.Ok (c : Cartridge) : Prop where
  rom : c.rom.Ok c.romSize
  ram : c.ram.Ok c.ramSize
  bank : c.mbc.romBankLo ≠ 0

/-- The invariant of the machine. -/
structure State.Inv (s : State) : Prop where
  cfg : s.cfg.wellFormed = true
  cpu : s.cpu.Ok
  timer : s.timer.Ok
  joypad : s.joypad.Ok
  ppu : s.ppu.Ok s.cfg.mode3Len
  apu : s.apu.Ok s.cfg.samplePeriod
  cart : s.cart.Ok
  wram : s.wram.Ok 0x2000
  hram : s.hram.Ok 127

/-! The columns of spec/opcode_table.json and the words the statements are written in. -/

/-- What the flag column says of one flag (00_scope R13): unchanged, cleared, set, or by the rule's formula. -/
inductive FlagEffect
  | kept
  | cleared
  | set
  | computed
  deriving DecidableEq, Repr

/-- What the column promises of a flag before and after. -/
def FlagEffect.Holds (e : FlagEffect) (before after : Bool) : Prop :=
  match e with
  | .kept => after = before
  | .cleared => after = false
  | .set => after = true
  | .computed => True

/-- The column `flags_ZNHC`. -/
structure FlagColumn where
  z : FlagEffect
  n : FlagEffect
  h : FlagEffect
  c : FlagEffect
  deriving DecidableEq, Repr

/-- `flags_ZNHC` of every row. -/
def flagColumn (i : Instr) : FlagColumn :=
  match i with
  | .daa => ⟨.computed, .kept, .cleared, .computed⟩
  | .cpl => ⟨.kept, .set, .set, .kept⟩
  | .scf => ⟨.kept, .cleared, .cleared, .set⟩
  | .ccf => ⟨.kept, .cleared, .cleared, .computed⟩
  | .pop_af => ⟨.computed, .computed, .computed, .computed⟩
  | .add_sp_e _ | .ld_hl_sp_e _ => ⟨.cleared, .cleared, .computed, .computed⟩
  | .rlca | .rrca | .rla | .rra => ⟨.cleared, .cleared, .cleared, .computed⟩
  | .add_hl_bc | .add_hl_de | .add_hl_hl | .add_hl_sp => ⟨.kept, .cleared, .computed, .computed⟩
  | .inc_b | .inc_c | .inc_d | .inc_e | .inc_h | .inc_l | .inc_atHL | .inc_a => ⟨.computed, .cleared, .computed, .kept⟩
  | .dec_b | .dec_c | .dec_d | .dec_e | .dec_h | .dec_l | .dec_atHL | .dec_a => ⟨.computed, .set, .computed, .kept⟩
  | .and_b | .and_c | .and_d | .and_e | .and_h | .and_l | .and_atHL | .and_a | .and_n _ => ⟨.computed, .cleared, .set, .cleared⟩
  | .add_a_b | .add_a_c | .add_a_d | .add_a_e | .add_a_h | .add_a_l | .add_a_atHL | .add_a_a | .adc_a_b | .adc_a_c | .adc_a_d |
    .adc_a_e | .adc_a_h | .adc_a_l | .adc_a_atHL | .adc_a_a | .add_a_n _ | .adc_a_n _ => ⟨.computed, .cleared, .computed, .computed⟩
  | .xor_b | .xor_c | .xor_d | .xor_e | .xor_h | .xor_l | .xor_atHL | .xor_a | .or_b | .or_c | .or_d | .or_e | .or_h | .or_l |
    .or_atHL | .or_a | .xor_n _ | .or_n _ | .swap_b | .swap_c | .swap_d | .swap_e | .swap_h | .swap_l | .swap_atHL | .swap_a =>
    ⟨.computed, .cleared, .cleared, .cleared⟩
  | .sub_b | .sub_c | .sub_d | .sub_e | .sub_h | .sub_l | .sub_atHL | .sub_a | .sbc_a_b | .sbc_a_c | .sbc_a_d | .sbc_a_e |
    .sbc_a_h | .sbc_a_l | .sbc_a_atHL | .sbc_a_a | .cp_b | .cp_c | .cp_d | .cp_e | .cp_h | .cp_l | .cp_atHL | .cp_a | .sub_n _ |
    .sbc_a_n _ | .cp_n _ => ⟨.computed, .set, .computed, .computed⟩
  | .rlc_b | .rlc_c | .rlc_d | .rlc_e | .rlc_h | .rlc_l | .rlc_atHL | .rlc_a | .rrc_b | .rrc_c | .rrc_d | .rrc_e | .rrc_h | .rrc_l
    | .rrc_atHL | .rrc_a | .rl_b | .rl_c | .rl_d | .rl_e | .rl_h | .rl_l | .rl_atHL | .rl_a | .rr_b | .rr_c | .rr_d | .rr_e | .rr_h
    | .rr_l | .rr_atHL | .rr_a | .sla_b | .sla_c | .sla_d | .sla_e | .sla_h | .sla_l | .sla_atHL | .sla_a | .sra_b | .sra_c | .sra_d
    | .sra_e | .sra_h | .sra_l | .sra_atHL | .sra_a | .srl_b | .srl_c | .srl_d | .srl_e | .srl_h | .srl_l | .srl_atHL | .srl_a =>
    ⟨.computed, .cleared, .cleared, .computed⟩
  | .bit_0_b | .bit_0_c | .bit_0_d | .bit_0_e | .bit_0_h | .bit_0_l | .bit_0_atHL | .bit_0_a | .bit_1_b | .bit_1_c | .bit_1_d |
    .bit_1_e | .bit_1_h | .bit_1_l | .bit_1_atHL | .bit_1_a | .bit_2_b | .bit_2_c | .bit_2_d | .bit_2_e | .bit_2_h | .bit_2_l |
    .bit_2_atHL | .bit_2_a | .bit_3_b | .bit_3_c | .bit_3_d | .bit_3_e | .bit_3_h | .bit_3_l | .bit_3_atHL | .bit_3_a | .bit_4_b |
    .bit_4_c | .bit_4_d | .bit_4_e | .bit_4_h | .bit_4_l | .bit_4_atHL | .bit_4_a | .bit_5_b | .bit_5_c | .bit_5_d | .bit_5_e |
    .bit_5_h | .bit_5_l | .bit_5_atHL | .bit_5_a | .bit_6_b | .bit_6_c | .bit_6_d | .bit_6_e | .bit_6_h | .bit_6_l | .bit_6_atHL |
    .bit_6_a | .bit_7_b | .bit_7_c | .bit_7_d | .bit_7_e | .bit_7_h | .bit_7_l | .bit_7_atHL | .bit_7_a =>
    ⟨.computed, .cleared, .set, .kept⟩
  | .nop | .ld_bc_nn _ | .ld_atBC_a | .inc_bc | .ld_b_n _ | .ld_atNN_sp _ | .ld_a_atBC | .dec_bc | .ld_c_n _ | .stop _ | .ld_de_nn
    _ | .ld_atDE_a | .inc_de | .ld_d_n _ | .jr_e _ | .ld_a_atDE | .dec_de | .ld_e_n _ | .jr_nz_e _ | .ld_hl_nn _ | .ld_atHLinc_a |
    .inc_hl | .ld_h_n _ | .jr_z_e _ | .ld_a_atHLinc | .dec_hl | .ld_l_n _ | .jr_nc_e _ | .ld_sp_nn _ | .ld_atHLdec_a | .inc_sp |
    .ld_atHL_n _ | .jr_c_e _ | .ld_a_atHLdec | .dec_sp | .ld_a_n _ | .ld_b_b | .ld_b_c | .ld_b_d | .ld_b_e | .ld_b_h | .ld_b_l |
    .ld_b_atHL | .ld_b_a | .ld_c_b | .ld_c_c | .ld_c_d | .ld_c_e | .ld_c_h | .ld_c_l | .ld_c_atHL | .ld_c_a | .ld_d_b | .ld_d_c |
    .ld_d_d | .ld_d_e | .ld_d_h | .ld_d_l | .ld_d_atHL | .ld_d_a | .ld_e_b | .ld_e_c | .ld_e_d | .ld_e_e | .ld_e_h | .ld_e_l |
    .ld_e_atHL | .ld_e_a | .ld_h_b | .ld_h_c | .ld_h_d | .ld_h_e | .ld_h_h | .ld_h_l | .ld_h_atHL | .ld_h_a | .ld_l_b | .ld_l_c |
    .ld_l_d | .ld_l_e | .ld_l_h | .ld_l_l | .ld_l_atHL | .ld_l_a | .ld_atHL_b | .ld_atHL_c | .ld_atHL_d | .ld_atHL_e | .ld_atHL_h |
    .ld_atHL_l | .halt | .ld_atHL_a | .ld_a_b | .ld_a_c | .ld_a_d | .ld_a_e | .ld_a_h | .ld_a_l | .ld_a_atHL | .ld_a_a | .ret_nz |
    .pop_bc | .jp_nz_nn _ | .jp_nn _ | .call_nz_nn _ | .push_bc | .rst_00h | .ret_z | .ret | .jp_z_nn _ | .prefixCb | .call_z_nn _ |
    .call_nn _ | .rst_08h | .ret_nc | .pop_de | .jp_nc_nn _ | .undef_d3 | .call_nc_nn _ | .push_de | .rst_10h | .ret_c | .reti |
    .jp_c_nn _ | .undef_db | .call_c_nn _ | .undef_dd | .rst_18h | .ldh_atN_a _ | .pop_hl | .ldh_atC_a | .undef_e3 | .undef_e4 |
    .push_hl | .rst_20h | .jp_hl | .ld_atNN_a _ | .undef_eb | .undef_ec | .undef_ed | .rst_28h | .ldh_a_atN _ | .ldh_a_atC | .di |
    .undef_f4 | .push_af | .rst_30h | .ld_sp_hl | .ld_a_atNN _ | .ei | .undef_fc | .undef_fd | .rst_38h | .res_0_b | .res_0_c |
    .res_0_d | .res_0_e | .res_0_h | .res_0_l | .res_0_atHL | .res_0_a | .res_1_b | .res_1_c | .res_1_d | .res_1_e | .res_1_h |
    .res_1_l | .res_1_atHL | .res_1_a | .res_2_b | .res_2_c | .res_2_d | .res_2_e | .res_2_h | .res_2_l | .res_2_atHL | .res_2_a |
    .res_3_b | .res_3_c | .res_3_d | .res_3_e | .res_3_h | .res_3_l | .res_3_atHL | .res_3_a | .res_4_b | .res_4_c | .res_4_d |
    .res_4_e | .res_4_h | .res_4_l | .res_4_atHL | .res_4_a | .res_5_b | .res_5_c | .res_5_d | .res_5_e | .res_5_h | .res_5_l |
    .res_5_atHL | .res_5_a | .res_6_b | .res_6_c | .res_6_d | .res_6_e | .res_6_h | .res_6_l | .res_6_atHL | .res_6_a | .res_7_b |
    .res_7_c | .res_7_d | .res_7_e | .res_7_h | .res_7_l | .res_7_atHL | .res_7_a | .set_0_b | .set_0_c | .set_0_d | .set_0_e |
    .set_0_h | .set_0_l | .set_0_atHL | .set_0_a | .set_1_b | .set_1_c | .set_1_d | .set_1_e | .set_1_h | .set_1_l | .set_1_atHL |
    .set_1_a | .set_2_b | .set_2_c | .set_2_d | .set_2_e | .set_2_h | .set_2_l | .set_2_atHL | .set_2_a | .set_3_b | .set_3_c |
    .set_3_d | .set_3_e | .set_3_h | .set_3_l | .set_3_atHL | .set_3_a | .set_4_b | .set_4_c | .set_4_d | .set_4_e | .set_4_h |
    .set_4_l | .set_4_atHL | .set_4_a | .set_5_b | .set_5_c | .set_5_d | .set_5_e | .set_5_h | .set_5_l | .set_5_atHL | .set_5_a |
    .set_6_b | .set_6_c | .set_6_d | .set_6_e | .set_6_h | .set_6_l | .set_6_atHL | .set_6_a | .set_7_b | .set_7_c | .set_7_d |
    .set_7_e | .set_7_h | .set_7_l | .set_7_atHL | .set_7_a => ⟨.kept, .kept, .kept, .kept⟩

/-- The columns `cycles_t_not_taken` and `cycles_t_taken`, both `cycles_t` for a row that has no condition. -/
def cycleColumns (i : Instr) : Nat × Nat :=
  match i with
  | .ld_atNN_sp _ => (20, 20)
  | .prefixCb => (0, 0)
  | .call_nn _ => (24, 24)
  | .jr_nz_e _ | .jr_z_e _ | .jr_nc_e _ | .jr_c_e _ => (8, 12)
  | .ret_nz | .ret_z | .ret_nc | .ret_c => (8, 20)
  | .jp_nz_nn _ | .jp_z_nn _ | .jp_nc_nn _ | .jp_c_nn _ => (12, 16)
  | .call_nz_nn _ | .call_z_nn _ | .call_nc_nn _ | .call_c_nn _ => (12, 24)
  | .ld_bc_nn _ | .ld_de_nn _ | .jr_e _ | .ld_hl_nn _ | .ld_sp_nn _ | .inc_atHL | .dec_atHL | .ld_atHL_n _ | .pop_bc | .pop_de |
    .ldh_atN_a _ | .pop_hl | .ldh_a_atN _ | .pop_af | .ld_hl_sp_e _ | .bit_0_atHL | .bit_1_atHL | .bit_2_atHL | .bit_3_atHL |
    .bit_4_atHL | .bit_5_atHL | .bit_6_atHL | .bit_7_atHL => (12, 12)
  | .jp_nn _ | .push_bc | .rst_00h | .ret | .rst_08h | .push_de | .rst_10h | .reti | .rst_18h | .push_hl | .rst_20h | .add_sp_e _
    | .ld_atNN_a _ | .rst_28h | .push_af | .rst_30h | .ld_a_atNN _ | .rst_38h | .rlc_atHL | .rrc_atHL | .rl_atHL | .rr_atHL |
    .sla_atHL | .sra_atHL | .swap_atHL | .srl_atHL | .res_0_atHL | .res_1_atHL | .res_2_atHL | .res_3_atHL | .res_4_atHL |
    .res_5_atHL | .res_6_atHL | .res_7_atHL | .set_0_atHL | .set_1_atHL | .set_2_atHL | .set_3_atHL | .set_4_atHL | .set_5_atHL |
    .set_6_atHL | .set_7_atHL => (16, 16)
  | .nop | .inc_b | .dec_b | .rlca | .inc_c | .dec_c | .rrca | .stop _ | .inc_d | .dec_d | .rla | .inc_e | .dec_e | .rra | .inc_h
    | .dec_h | .daa | .inc_l | .dec_l | .cpl | .scf | .inc_a | .dec_a | .ccf | .ld_b_b | .ld_b_c | .ld_b_d | .ld_b_e | .ld_b_h |
    .ld_b_l | .ld_b_a | .ld_c_b | .ld_c_c | .ld_c_d | .ld_c_e | .ld_c_h | .ld_c_l | .ld_c_a | .ld_d_b | .ld_d_c | .ld_d_d | .ld_d_e
    | .ld_d_h | .ld_d_l | .ld_d_a | .ld_e_b | .ld_e_c | .ld_e_d | .ld_e_e | .ld_e_h | .ld_e_l | .ld_e_a | .ld_h_b | .ld_h_c |
    .ld_h_d | .ld_h_e | .ld_h_h | .ld_h_l | .ld_h_a | .ld_l_b | .ld_l_c | .ld_l_d | .ld_l_e | .ld_l_h | .ld_l_l | .ld_l_a | .halt |
    .ld_a_b | .ld_a_c | .ld_a_d | .ld_a_e | .ld_a_h | .ld_a_l | .ld_a_a | .add_a_b | .add_a_c | .add_a_d | .add_a_e | .add_a_h |
    .add_a_l | .add_a_a | .adc_a_b | .adc_a_c | .adc_a_d | .adc_a_e | .adc_a_h | .adc_a_l | .adc_a_a | .sub_b | .sub_c | .sub_d |
    .sub_e | .sub_h | .sub_l | .sub_a | .sbc_a_b | .sbc_a_c | .sbc_a_d | .sbc_a_e | .sbc_a_h | .sbc_a_l | .sbc_a_a | .and_b | .and_c
    | .and_d | .and_e | .and_h | .and_l | .and_a | .xor_b | .xor_c | .xor_d | .xor_e | .xor_h | .xor_l | .xor_a | .or_b | .or_c |
    .or_d | .or_e | .or_h | .or_l | .or_a | .cp_b | .cp_c | .cp_d | .cp_e | .cp_h | .cp_l | .cp_a | .undef_d3 | .undef_db |
    .undef_dd | .undef_e3 | .undef_e4 | .jp_hl | .undef_eb | .undef_ec | .undef_ed | .di | .undef_f4 | .ei | .undef_fc | .undef_fd
    => (4, 4)
  | .ld_atBC_a | .inc_bc | .ld_b_n _ | .add_hl_bc | .ld_a_atBC | .dec_bc | .ld_c_n _ | .ld_atDE_a | .inc_de | .ld_d_n _ |
    .add_hl_de | .ld_a_atDE | .dec_de | .ld_e_n _ | .ld_atHLinc_a | .inc_hl | .ld_h_n _ | .add_hl_hl | .ld_a_atHLinc | .dec_hl |
    .ld_l_n _ | .ld_atHLdec_a | .inc_sp | .add_hl_sp | .ld_a_atHLdec | .dec_sp | .ld_a_n _ | .ld_b_atHL | .ld_c_atHL | .ld_d_atHL |
    .ld_e_atHL | .ld_h_atHL | .ld_l_atHL | .ld_atHL_b | .ld_atHL_c | .ld_atHL_d | .ld_atHL_e | .ld_atHL_h | .ld_atHL_l | .ld_atHL_a
    | .ld_a_atHL | .add_a_atHL | .adc_a_atHL | .sub_atHL | .sbc_a_atHL | .and_atHL | .xor_atHL | .or_atHL | .cp_atHL | .add_a_n _ |
    .adc_a_n _ | .sub_n _ | .sbc_a_n _ | .ldh_atC_a | .and_n _ | .xor_n _ | .ldh_a_atC | .or_n _ | .ld_sp_hl | .cp_n _ | .rlc_b |
    .rlc_c | .rlc_d | .rlc_e | .rlc_h | .rlc_l | .rlc_a | .rrc_b | .rrc_c | .rrc_d | .rrc_e | .rrc_h | .rrc_l | .rrc_a | .rl_b |
    .rl_c | .rl_d | .rl_e | .rl_h | .rl_l | .rl_a | .rr_b | .rr_c | .rr_d | .rr_e | .rr_h | .rr_l | .rr_a | .sla_b | .sla_c | .sla_d
    | .sla_e | .sla_h | .sla_l | .sla_a | .sra_b | .sra_c | .sra_d | .sra_e | .sra_h | .sra_l | .sra_a | .swap_b | .swap_c | .swap_d
    | .swap_e | .swap_h | .swap_l | .swap_a | .srl_b | .srl_c | .srl_d | .srl_e | .srl_h | .srl_l | .srl_a | .bit_0_b | .bit_0_c |
    .bit_0_d | .bit_0_e | .bit_0_h | .bit_0_l | .bit_0_a | .bit_1_b | .bit_1_c | .bit_1_d | .bit_1_e | .bit_1_h | .bit_1_l |
    .bit_1_a | .bit_2_b | .bit_2_c | .bit_2_d | .bit_2_e | .bit_2_h | .bit_2_l | .bit_2_a | .bit_3_b | .bit_3_c | .bit_3_d |
    .bit_3_e | .bit_3_h | .bit_3_l | .bit_3_a | .bit_4_b | .bit_4_c | .bit_4_d | .bit_4_e | .bit_4_h | .bit_4_l | .bit_4_a |
    .bit_5_b | .bit_5_c | .bit_5_d | .bit_5_e | .bit_5_h | .bit_5_l | .bit_5_a | .bit_6_b | .bit_6_c | .bit_6_d | .bit_6_e |
    .bit_6_h | .bit_6_l | .bit_6_a | .bit_7_b | .bit_7_c | .bit_7_d | .bit_7_e | .bit_7_h | .bit_7_l | .bit_7_a | .res_0_b |
    .res_0_c | .res_0_d | .res_0_e | .res_0_h | .res_0_l | .res_0_a | .res_1_b | .res_1_c | .res_1_d | .res_1_e | .res_1_h |
    .res_1_l | .res_1_a | .res_2_b | .res_2_c | .res_2_d | .res_2_e | .res_2_h | .res_2_l | .res_2_a | .res_3_b | .res_3_c |
    .res_3_d | .res_3_e | .res_3_h | .res_3_l | .res_3_a | .res_4_b | .res_4_c | .res_4_d | .res_4_e | .res_4_h | .res_4_l |
    .res_4_a | .res_5_b | .res_5_c | .res_5_d | .res_5_e | .res_5_h | .res_5_l | .res_5_a | .res_6_b | .res_6_c | .res_6_d |
    .res_6_e | .res_6_h | .res_6_l | .res_6_a | .res_7_b | .res_7_c | .res_7_d | .res_7_e | .res_7_h | .res_7_l | .res_7_a |
    .set_0_b | .set_0_c | .set_0_d | .set_0_e | .set_0_h | .set_0_l | .set_0_a | .set_1_b | .set_1_c | .set_1_d | .set_1_e |
    .set_1_h | .set_1_l | .set_1_a | .set_2_b | .set_2_c | .set_2_d | .set_2_e | .set_2_h | .set_2_l | .set_2_a | .set_3_b |
    .set_3_c | .set_3_d | .set_3_e | .set_3_h | .set_3_l | .set_3_a | .set_4_b | .set_4_c | .set_4_d | .set_4_e | .set_4_h |
    .set_4_l | .set_4_a | .set_5_b | .set_5_c | .set_5_d | .set_5_e | .set_5_h | .set_5_l | .set_5_a | .set_6_b | .set_6_c |
    .set_6_d | .set_6_e | .set_6_h | .set_6_l | .set_6_a | .set_7_b | .set_7_c | .set_7_d | .set_7_e | .set_7_h | .set_7_l |
    .set_7_a => (8, 8)

/-- The condition of a conditional row (45_control_flow R272, R275, R277, R279). -/
def conditionOf (i : Instr) : Option Cond :=
  match i with
  | .jp_nz_nn _ | .jr_nz_e _ | .call_nz_nn _ | .ret_nz => some .nz
  | .jp_z_nn _ | .jr_z_e _ | .call_z_nn _ | .ret_z => some .z
  | .jp_nc_nn _ | .jr_nc_e _ | .call_nc_nn _ | .ret_nc => some .nc
  | .jp_c_nn _ | .jr_c_e _ | .call_c_nn _ | .ret_c => some .c
  | _ => none

/-- The T-cycles of an instruction that starts with the flags `f` (70_reset R526). -/
def costOf (i : Instr) (f : Byte) : Nat :=
  match conditionOf i with
  | none => (cycleColumns i).1
  | some cc => if condHolds cc f then (cycleColumns i).2 else (cycleColumns i).1

/-- The 8-bit registers an instruction's rule writes. -/
def destinations (i : Instr) : List Reg8 :=
  match i with
  | .ld_a_atHLinc | .ld_a_atHLdec => [.a, .h, .l]
  | .ld_bc_nn _ | .inc_bc | .dec_bc | .pop_bc => [.b, .c]
  | .ld_de_nn _ | .inc_de | .dec_de | .pop_de => [.d, .e]
  | .add_hl_bc | .add_hl_de | .ld_hl_nn _ | .ld_atHLinc_a | .inc_hl | .add_hl_hl | .dec_hl | .ld_atHLdec_a | .add_hl_sp | .pop_hl
    | .ld_hl_sp_e _ => [.h, .l]
  | .inc_b | .dec_b | .ld_b_n _ | .ld_b_b | .ld_b_c | .ld_b_d | .ld_b_e | .ld_b_h | .ld_b_l | .ld_b_atHL | .ld_b_a | .rlc_b |
    .rrc_b | .rl_b | .rr_b | .sla_b | .sra_b | .swap_b | .srl_b | .res_0_b | .res_1_b | .res_2_b | .res_3_b | .res_4_b | .res_5_b |
    .res_6_b | .res_7_b | .set_0_b | .set_1_b | .set_2_b | .set_3_b | .set_4_b | .set_5_b | .set_6_b | .set_7_b => [.b]
  | .inc_c | .dec_c | .ld_c_n _ | .ld_c_b | .ld_c_c | .ld_c_d | .ld_c_e | .ld_c_h | .ld_c_l | .ld_c_atHL | .ld_c_a | .rlc_c |
    .rrc_c | .rl_c | .rr_c | .sla_c | .sra_c | .swap_c | .srl_c | .res_0_c | .res_1_c | .res_2_c | .res_3_c | .res_4_c | .res_5_c |
    .res_6_c | .res_7_c | .set_0_c | .set_1_c | .set_2_c | .set_3_c | .set_4_c | .set_5_c | .set_6_c | .set_7_c => [.c]
  | .inc_d | .dec_d | .ld_d_n _ | .ld_d_b | .ld_d_c | .ld_d_d | .ld_d_e | .ld_d_h | .ld_d_l | .ld_d_atHL | .ld_d_a | .rlc_d |
    .rrc_d | .rl_d | .rr_d | .sla_d | .sra_d | .swap_d | .srl_d | .res_0_d | .res_1_d | .res_2_d | .res_3_d | .res_4_d | .res_5_d |
    .res_6_d | .res_7_d | .set_0_d | .set_1_d | .set_2_d | .set_3_d | .set_4_d | .set_5_d | .set_6_d | .set_7_d => [.d]
  | .inc_e | .dec_e | .ld_e_n _ | .ld_e_b | .ld_e_c | .ld_e_d | .ld_e_e | .ld_e_h | .ld_e_l | .ld_e_atHL | .ld_e_a | .rlc_e |
    .rrc_e | .rl_e | .rr_e | .sla_e | .sra_e | .swap_e | .srl_e | .res_0_e | .res_1_e | .res_2_e | .res_3_e | .res_4_e | .res_5_e |
    .res_6_e | .res_7_e | .set_0_e | .set_1_e | .set_2_e | .set_3_e | .set_4_e | .set_5_e | .set_6_e | .set_7_e => [.e]
  | .inc_h | .dec_h | .ld_h_n _ | .ld_h_b | .ld_h_c | .ld_h_d | .ld_h_e | .ld_h_h | .ld_h_l | .ld_h_atHL | .ld_h_a | .rlc_h |
    .rrc_h | .rl_h | .rr_h | .sla_h | .sra_h | .swap_h | .srl_h | .res_0_h | .res_1_h | .res_2_h | .res_3_h | .res_4_h | .res_5_h |
    .res_6_h | .res_7_h | .set_0_h | .set_1_h | .set_2_h | .set_3_h | .set_4_h | .set_5_h | .set_6_h | .set_7_h => [.h]
  | .inc_l | .dec_l | .ld_l_n _ | .ld_l_b | .ld_l_c | .ld_l_d | .ld_l_e | .ld_l_h | .ld_l_l | .ld_l_atHL | .ld_l_a | .rlc_l |
    .rrc_l | .rl_l | .rr_l | .sla_l | .sra_l | .swap_l | .srl_l | .res_0_l | .res_1_l | .res_2_l | .res_3_l | .res_4_l | .res_5_l |
    .res_6_l | .res_7_l | .set_0_l | .set_1_l | .set_2_l | .set_3_l | .set_4_l | .set_5_l | .set_6_l | .set_7_l => [.l]
  | .rlca | .ld_a_atBC | .rrca | .rla | .ld_a_atDE | .rra | .daa | .cpl | .inc_a | .dec_a | .ld_a_n _ | .ld_a_b | .ld_a_c |
    .ld_a_d | .ld_a_e | .ld_a_h | .ld_a_l | .ld_a_atHL | .ld_a_a | .add_a_b | .add_a_c | .add_a_d | .add_a_e | .add_a_h | .add_a_l |
    .add_a_atHL | .add_a_a | .adc_a_b | .adc_a_c | .adc_a_d | .adc_a_e | .adc_a_h | .adc_a_l | .adc_a_atHL | .adc_a_a | .sub_b |
    .sub_c | .sub_d | .sub_e | .sub_h | .sub_l | .sub_atHL | .sub_a | .sbc_a_b | .sbc_a_c | .sbc_a_d | .sbc_a_e | .sbc_a_h |
    .sbc_a_l | .sbc_a_atHL | .sbc_a_a | .and_b | .and_c | .and_d | .and_e | .and_h | .and_l | .and_atHL | .and_a | .xor_b | .xor_c |
    .xor_d | .xor_e | .xor_h | .xor_l | .xor_atHL | .xor_a | .or_b | .or_c | .or_d | .or_e | .or_h | .or_l | .or_atHL | .or_a |
    .add_a_n _ | .adc_a_n _ | .sub_n _ | .sbc_a_n _ | .and_n _ | .xor_n _ | .ldh_a_atN _ | .pop_af | .ldh_a_atC | .or_n _ |
    .ld_a_atNN _ | .rlc_a | .rrc_a | .rl_a | .rr_a | .sla_a | .sra_a | .swap_a | .srl_a | .res_0_a | .res_1_a | .res_2_a | .res_3_a
    | .res_4_a | .res_5_a | .res_6_a | .res_7_a | .set_0_a | .set_1_a | .set_2_a | .set_3_a | .set_4_a | .set_5_a | .set_6_a |
    .set_7_a => [.a]
  | .nop | .ld_atBC_a | .ld_atNN_sp _ | .stop _ | .ld_atDE_a | .jr_e _ | .jr_nz_e _ | .jr_z_e _ | .jr_nc_e _ | .ld_sp_nn _ |
    .inc_sp | .inc_atHL | .dec_atHL | .ld_atHL_n _ | .scf | .jr_c_e _ | .dec_sp | .ccf | .ld_atHL_b | .ld_atHL_c | .ld_atHL_d |
    .ld_atHL_e | .ld_atHL_h | .ld_atHL_l | .halt | .ld_atHL_a | .cp_b | .cp_c | .cp_d | .cp_e | .cp_h | .cp_l | .cp_atHL | .cp_a |
    .ret_nz | .jp_nz_nn _ | .jp_nn _ | .call_nz_nn _ | .push_bc | .rst_00h | .ret_z | .ret | .jp_z_nn _ | .prefixCb | .call_z_nn _ |
    .call_nn _ | .rst_08h | .ret_nc | .jp_nc_nn _ | .undef_d3 | .call_nc_nn _ | .push_de | .rst_10h | .ret_c | .reti | .jp_c_nn _ |
    .undef_db | .call_c_nn _ | .undef_dd | .rst_18h | .ldh_atN_a _ | .ldh_atC_a | .undef_e3 | .undef_e4 | .push_hl | .rst_20h |
    .add_sp_e _ | .jp_hl | .ld_atNN_a _ | .undef_eb | .undef_ec | .undef_ed | .rst_28h | .di | .undef_f4 | .push_af | .rst_30h |
    .ld_sp_hl | .ei | .undef_fc | .undef_fd | .cp_n _ | .rst_38h | .rlc_atHL | .rrc_atHL | .rl_atHL | .rr_atHL | .sla_atHL |
    .sra_atHL | .swap_atHL | .srl_atHL | .bit_0_b | .bit_0_c | .bit_0_d | .bit_0_e | .bit_0_h | .bit_0_l | .bit_0_atHL | .bit_0_a |
    .bit_1_b | .bit_1_c | .bit_1_d | .bit_1_e | .bit_1_h | .bit_1_l | .bit_1_atHL | .bit_1_a | .bit_2_b | .bit_2_c | .bit_2_d |
    .bit_2_e | .bit_2_h | .bit_2_l | .bit_2_atHL | .bit_2_a | .bit_3_b | .bit_3_c | .bit_3_d | .bit_3_e | .bit_3_h | .bit_3_l |
    .bit_3_atHL | .bit_3_a | .bit_4_b | .bit_4_c | .bit_4_d | .bit_4_e | .bit_4_h | .bit_4_l | .bit_4_atHL | .bit_4_a | .bit_5_b |
    .bit_5_c | .bit_5_d | .bit_5_e | .bit_5_h | .bit_5_l | .bit_5_atHL | .bit_5_a | .bit_6_b | .bit_6_c | .bit_6_d | .bit_6_e |
    .bit_6_h | .bit_6_l | .bit_6_atHL | .bit_6_a | .bit_7_b | .bit_7_c | .bit_7_d | .bit_7_e | .bit_7_h | .bit_7_l | .bit_7_atHL |
    .bit_7_a | .res_0_atHL | .res_1_atHL | .res_2_atHL | .res_3_atHL | .res_4_atHL | .res_5_atHL | .res_6_atHL | .res_7_atHL |
    .set_0_atHL | .set_1_atHL | .set_2_atHL | .set_3_atHL | .set_4_atHL | .set_5_atHL | .set_6_atHL | .set_7_atHL => []

/-- Whether an instruction's rule writes SP. -/
def writesSp (i : Instr) : Bool :=
  match i with
  | .ld_sp_nn _ | .inc_sp | .dec_sp | .ret_nz | .pop_bc | .call_nz_nn _ | .push_bc | .rst_00h | .ret_z | .ret | .call_z_nn _ |
    .call_nn _ | .rst_08h | .ret_nc | .pop_de | .call_nc_nn _ | .push_de | .rst_10h | .ret_c | .reti | .call_c_nn _ | .rst_18h |
    .pop_hl | .push_hl | .rst_20h | .add_sp_e _ | .rst_28h | .pop_af | .push_af | .rst_30h | .ld_sp_hl | .rst_38h => true
  | _ => false

/-- Whether an instruction's rule writes PC (45_control_flow). -/
def writesPc (i : Instr) : Bool :=
  match i with
  | .jr_e _ | .jr_nz_e _ | .jr_z_e _ | .jr_nc_e _ | .jr_c_e _ | .ret_nz | .jp_nz_nn _ | .jp_nn _ | .call_nz_nn _ | .rst_00h |
    .ret_z | .ret | .jp_z_nn _ | .call_z_nn _ | .call_nn _ | .rst_08h | .ret_nc | .jp_nc_nn _ | .call_nc_nn _ | .rst_10h | .ret_c |
    .reti | .jp_c_nn _ | .call_c_nn _ | .rst_18h | .rst_20h | .jp_hl | .rst_28h | .rst_30h | .rst_38h => true
  | _ => false

/-- The addresses an instruction stores to, from the state in which it executes (40_load8 to 45_control_flow). -/
def storedAt (i : Instr) (s : State) : List Word :=
  match i with
  | .ld_atBC_a => [s.cpu.bc]
  | .ld_atNN_sp nn => [nn, nn + 1]
  | .ld_atDE_a => [s.cpu.de]
  | .ld_atHLinc_a | .ld_atHLdec_a | .inc_atHL | .dec_atHL | .ld_atHL_n _ | .ld_atHL_b | .ld_atHL_c | .ld_atHL_d | .ld_atHL_e |
    .ld_atHL_h | .ld_atHL_l | .ld_atHL_a | .rlc_atHL | .rrc_atHL | .rl_atHL | .rr_atHL | .sla_atHL | .sra_atHL | .swap_atHL |
    .srl_atHL | .res_0_atHL | .res_1_atHL | .res_2_atHL | .res_3_atHL | .res_4_atHL | .res_5_atHL | .res_6_atHL | .res_7_atHL |
    .set_0_atHL | .set_1_atHL | .set_2_atHL | .set_3_atHL | .set_4_atHL | .set_5_atHL | .set_6_atHL | .set_7_atHL => [s.cpu.hl]
  | .call_nz_nn _ => if condHolds .nz s.cpu.f then [s.cpu.sp - 1, s.cpu.sp - 2] else []
  | .push_bc | .rst_00h | .call_nn _ | .rst_08h | .push_de | .rst_10h | .rst_18h | .push_hl | .rst_20h | .rst_28h | .push_af |
    .rst_30h | .rst_38h => [s.cpu.sp - 1, s.cpu.sp - 2]
  | .call_z_nn _ => if condHolds .z s.cpu.f then [s.cpu.sp - 1, s.cpu.sp - 2] else []
  | .call_nc_nn _ => if condHolds .nc s.cpu.f then [s.cpu.sp - 1, s.cpu.sp - 2] else []
  | .call_c_nn _ => if condHolds .c s.cpu.f then [s.cpu.sp - 1, s.cpu.sp - 2] else []
  | .ldh_atN_a n => [0xFF00 + n.zeroExtend 16]
  | .ldh_atC_a => [0xFF00 + s.cpu.c.zeroExtend 16]
  | .ld_atNN_a nn => [nn]
  | _ => []

/-- The byte of storage behind an address: echo RAM is work RAM (20_memory R68), cartridge RAM is banked and repeats (R108). -/
def State.cellOf (s : State) (a : Word) : Region × Nat :=
  match regionOf a with
  | .echo => (.wram, a.toNat - 0xE000)
  | .wram => (.wram, a.toNat - 0xC000)
  | .cartRam => (.cartRam, s.cart.ramOffset a.toNat)
  | r => (r, a.toNat)

/-- A region where a write changes nothing but the byte written: all but ROM, whose writes go to the controller (R64), and the
I/O registers (R71). -/
def Region.plain : Region → Bool
  | .rom => false
  | .io => false
  | _ => true

/-- The next `n` M-cycles of a step. -/
def State.mcycles : Nat → State → State
  | 0, s => s
  | n + 1, s => State.mcycles n s.mcycle

/-- F by the places of the four flags, bits 7 to 4 (10_state R24). -/
def flagValue (z n h c : Bool) : Byte := BitVec.ofNat 8 (128 * z.toNat + 64 * n.toNat + 32 * h.toNat + 16 * c.toNat)

/-- The forms of an ALU operation (42_alu8 R200): the value of `s` and the state once it is read. -/
def AluForm (op : AluOp) (i : Instr) (s u : State) (v : Byte) : Prop :=
  (∃ r : Reg8, i = .alu op (.reg r) ∧ u = s ∧ v = s.cpu.get r) ∨
  (i = .alu op .atHL ∧ u = s.mcycle ∧ v = s.mcycle.read s.cpu.hl) ∨
  (i = .aluImm op v ∧ u = s)

/-- The length of an instruction by its first byte (30_encoding R126, the lists written out). -/
def lengthByOpcode (op : Byte) : Nat :=
  if op ∈ ([0x01, 0x11, 0x21, 0x31, 0x08, 0xC2, 0xC3, 0xC4, 0xCA, 0xCC, 0xCD, 0xD2, 0xD4, 0xDA, 0xDC, 0xEA, 0xFA] : List Byte) then 3
  else if op ∈ ([0x06, 0x0E, 0x16, 0x1E, 0x26, 0x2E, 0x36, 0x3E, 0x10, 0x18, 0x20, 0x28, 0x30, 0x38, 0xC6, 0xCE, 0xD6, 0xDE, 0xE6,
    0xEE, 0xF6, 0xFE, 0xE0, 0xF0, 0xE8, 0xF8, 0xCB] : List Byte) then 2
  else 1

/-- A rotate or shift of the value `v`, the carry in being `c`, in numbers: the result and the carry out (44_rotate_shift_bit R245 to
R252). -/
def shiftByRule (op : ShiftOp) (v c : Nat) : Nat × Bool :=
  match op with
  | .rlc => (2 * v % 256 + v / 128, decide (128 ≤ v))
  | .rrc => (v / 2 + 128 * (v % 2), decide (v % 2 = 1))
  | .rl => (2 * v % 256 + c, decide (128 ≤ v))
  | .rr => (v / 2 + 128 * c, decide (v % 2 = 1))
  | .sla => (2 * v % 256, decide (128 ≤ v))
  | .sra => (v / 2 + (if 128 ≤ v then 128 else 0), decide (v % 2 = 1))
  | .swap => (16 * (v % 16) + v / 16, false)
  | .srl => (v / 2, decide (v % 2 = 1))

/-- The state of a CPU that goes on to execute an instruction (60_exceptions R310 steps 3 and 5): awake, the delayed EI in effect, the
first M-cycle begun. -/
def State.awake (s : State) : State :=
  { s with
    cycles := 4
    cpu := { s.cpu with halted := false, ime := s.cpu.ime || s.cpu.eiPending, eiPending := false } }

/-- Whether the next step executes an instruction (R310 steps 1 to 4): not stopped, not idling, no interrupt to take. -/
def State.Executes (s : State) : Prop :=
  s.cpu.stopped = false ∧ (s.cpu.halted = true → s.ints.pend ≠ 0) ∧ (s.cpu.ime = true → s.ints.pend = 0)

/-- The instruction the next step executes, if it executes one. -/
def State.nextInstr (s : State) : Instr := s.awake.fetchInstr.1

end Sys2Proof.Machine

namespace Sys2Proof

/-- The field codes of the operand tables (30_encoding R127 to R131). -/
def Reg8.code : Reg8 → Nat
  | .b => 0
  | .c => 1
  | .d => 2
  | .e => 3
  | .h => 4
  | .l => 5
  | .a => 7

def Operand8.code : Operand8 → Nat
  | .reg r => r.code
  | .atHL => 6

def Pair.code : Pair → Nat
  | .bc => 0
  | .de => 1
  | .hl => 2
  | .sp => 3

def StackPair.code : StackPair → Nat
  | .bc => 0
  | .de => 1
  | .hl => 2
  | .af => 3

def Cond.code : Cond → Nat
  | .nz => 0
  | .z => 1
  | .nc => 2
  | .c => 3

def AluOp.code : AluOp → Nat
  | .add => 0
  | .adc => 1
  | .sub => 2
  | .sbc => 3
  | .and => 4
  | .xor => 5
  | .or => 6
  | .cp => 7

def ShiftOp.code : ShiftOp → Nat
  | .rlc => 0
  | .rrc => 1
  | .rl => 2
  | .rr => 3
  | .sla => 4
  | .sra => 5
  | .swap => 6
  | .srl => 7

end Sys2Proof
end

