-- ==== Sys2Proof/Certificates/Slice0/Obligations.lean ====
section
/-! DEFINITION. The statements for the provers, in the order of OBLIGATIONS.json: encodings, steps, invariants, the instructions family by family
(result, completion, frame), interrupts, the bus, the devices and the host's calls. -/

open Sys2Proof Sys2Proof.Machine

/-! ### Encodings -/

/-- Decoding and encoding agree in both directions, for every instruction with every operand value. -/
def Obligations.DecodeAndEncodeAgree : Prop :=
  (∀ (i : Instr) (rest : List Byte), i.wellFormed = true → decode (encode i ++ rest) = .ok (i, rest)) ∧
  (∀ (bytes rest : List Byte) (i : Instr), i.wellFormed = true → decode bytes = .ok (i, rest) → bytes = encode i ++ rest)

/-- 30_encoding R132 and R133 row by row, with the operand codes of R127 to R131: every well-formed instruction is in one of these lines. -/
def Obligations.EncodingsFollowTheTables : Prop :=
  (∀ dst r : Reg8, encode (.ldRegReg dst r) = [BitVec.ofNat 8 (0x40 + 8 * dst.code + r.code)]) ∧
  (∀ (r : Reg8) (n : Byte), encode (.ldRegImm r n) = [BitVec.ofNat 8 (0x06 + 8 * r.code), n]) ∧
  (∀ r : Reg8, encode (.ldRegAtHL r) = [BitVec.ofNat 8 (0x46 + 8 * r.code)]) ∧
  (∀ r : Reg8, encode (.ldAtHLReg r) = [BitVec.ofNat 8 (0x70 + r.code)]) ∧
  (∀ n : Byte, encode (.ld_atHL_n n) = [0x36, n]) ∧
  (∀ (op : AluOp) (t : Operand8), encode (.alu op t) = [BitVec.ofNat 8 (0x80 + 8 * op.code + t.code)]) ∧
  (∀ (op : AluOp) (n : Byte), encode (.aluImm op n) = [BitVec.ofNat 8 (0xC6 + 8 * op.code), n]) ∧
  (∀ t : Operand8, encode (.incOperand t) = [BitVec.ofNat 8 (0x04 + 8 * t.code)] ∧
    encode (.decOperand t) = [BitVec.ofNat 8 (0x05 + 8 * t.code)]) ∧
  (∀ (p : Pair) (nn : Word), encode (.ldPairImm p nn) = [BitVec.ofNat 8 (0x01 + 16 * p.code), loByte nn, hiByte nn]) ∧
  (∀ p : Pair, encode (.addHL p) = [BitVec.ofNat 8 (0x09 + 16 * p.code)] ∧
    encode (.incPair p) = [BitVec.ofNat 8 (0x03 + 16 * p.code)] ∧ encode (.decPair p) = [BitVec.ofNat 8 (0x0B + 16 * p.code)]) ∧
  (∀ p : StackPair, encode (.push p) = [BitVec.ofNat 8 (0xC5 + 16 * p.code)] ∧
    encode (.pop p) = [BitVec.ofNat 8 (0xC1 + 16 * p.code)]) ∧
  (∀ (cc : Cond) (nn : Word) (e : Byte), encode (.jpCond cc nn) = [BitVec.ofNat 8 (0xC2 + 8 * cc.code), loByte nn, hiByte nn] ∧
    encode (.callCond cc nn) = [BitVec.ofNat 8 (0xC4 + 8 * cc.code), loByte nn, hiByte nn] ∧
    encode (.jrCond cc e) = [BitVec.ofNat 8 (0x20 + 8 * cc.code), e] ∧ encode (.retCond cc) = [BitVec.ofNat 8 (0xC0 + 8 * cc.code)]) ∧
  (∀ t : BitVec 3, encode (.rst t) = [BitVec.ofNat 8 (0xC7 + 8 * t.toNat)]) ∧
  (∀ (op : ShiftOp) (t : Operand8), encode (.shift op t) = [0xCB, BitVec.ofNat 8 (8 * op.code + t.code)]) ∧
  (∀ (b : BitVec 3) (t : Operand8), encode (.bit b t) = [0xCB, BitVec.ofNat 8 (0x40 + 8 * b.toNat + t.code)] ∧
    encode (.res b t) = [0xCB, BitVec.ofNat 8 (0x80 + 8 * b.toNat + t.code)] ∧
    encode (.set b t) = [0xCB, BitVec.ofNat 8 (0xC0 + 8 * b.toNat + t.code)]) ∧
  (encode .nop = [0x00] ∧ encode .halt = [0x76] ∧ encode .di = [0xF3] ∧ encode .ei = [0xFB] ∧ (∀ x, encode (.stop x) = [0x10, x])) ∧
  (encode .ld_atBC_a = [0x02] ∧ encode .ld_a_atBC = [0x0A] ∧ encode .ld_atDE_a = [0x12] ∧ encode .ld_a_atDE = [0x1A] ∧
    encode .ld_atHLinc_a = [0x22] ∧ encode .ld_a_atHLinc = [0x2A] ∧ encode .ld_atHLdec_a = [0x32] ∧ encode .ld_a_atHLdec = [0x3A]) ∧
  (encode .rlca = [0x07] ∧ encode .rrca = [0x0F] ∧ encode .rla = [0x17] ∧ encode .rra = [0x1F] ∧ encode .daa = [0x27] ∧
    encode .cpl = [0x2F] ∧ encode .scf = [0x37] ∧ encode .ccf = [0x3F]) ∧
  (∀ nn : Word, encode (.ld_atNN_sp nn) = [0x08, loByte nn, hiByte nn] ∧ encode (.ld_atNN_a nn) = [0xEA, loByte nn, hiByte nn] ∧
    encode (.ld_a_atNN nn) = [0xFA, loByte nn, hiByte nn] ∧ encode (.jp_nn nn) = [0xC3, loByte nn, hiByte nn] ∧
    encode (.call_nn nn) = [0xCD, loByte nn, hiByte nn]) ∧
  (∀ v : Byte, encode (.ldh_atN_a v) = [0xE0, v] ∧ encode (.ldh_a_atN v) = [0xF0, v] ∧ encode (.add_sp_e v) = [0xE8, v] ∧
    encode (.ld_hl_sp_e v) = [0xF8, v] ∧ encode (.jr_e v) = [0x18, v]) ∧
  (encode .ldh_atC_a = [0xE2] ∧ encode .ldh_a_atC = [0xF2] ∧ encode .ret = [0xC9] ∧ encode .reti = [0xD9] ∧ encode .jp_hl = [0xE9] ∧
    encode .ld_sp_hl = [0xF9]) ∧
  (∀ p ∈ Instr.undefined, encode p.2 = [p.1])

/-- The decoder takes exactly as many bytes as R126 lists for the first one, and refuses bytes that end before that. The last line is the model's:
a lone 0xCB is the row PREFIX_CB (log entry 5). -/
def Obligations.DecodeTakesTheListedLength : Prop :=
  (∀ (op : Byte) (rest : List Byte), lengthByOpcode op ≤ rest.length + 1 →
    ∃ i : Instr, i.wellFormed = true ∧ decode (op :: rest) = .ok (i, rest.drop (lengthByOpcode op - 1))) ∧
  (∀ (op : Byte) (rest : List Byte), rest.length + 1 < lengthByOpcode op → op ≠ 0xCB →
    decode (op :: rest) = .error (.missingOperand op)) ∧
  decode [] = .error .noBytes ∧
  decode [0xCB] = .ok (.prefixCb, [])

/-- Words of the spec, one or more of each family, written bit by bit. -/
def Obligations.SpecWordsDecode : Prop :=
  decode [0b00000000] = .ok (.nop, []) ∧
  decode [0b01000011] = .ok (.ld_b_e, []) ∧
  decode [0b00100110, 0b11000000] = .ok (.ld_h_n 0xC0, []) ∧
  decode [0b01110110] = .ok (.halt, []) ∧
  decode [0b01101110] = .ok (.ld_l_atHL, []) ∧
  decode [0b00000001, 0b00110100, 0b00010010] = .ok (.ld_bc_nn 0x1234, []) ∧
  decode [0b00001000, 0b00000000, 0b11000011] = .ok (.ld_atNN_sp 0xC300, []) ∧
  decode [0b11110101] = .ok (.push_af, []) ∧
  decode [0b11110001] = .ok (.pop_af, []) ∧
  decode [0b11000110, 0b11000110] = .ok (.add_a_n 0xC6, []) ∧
  decode [0b10011001] = .ok (.sbc_a_c, []) ∧
  decode [0b10111110] = .ok (.cp_atHL, []) ∧
  decode [0b00111001] = .ok (.add_hl_sp, []) ∧
  decode [0b11101000, 0b11111111] = .ok (.add_sp_e 0xFF, []) ∧
  decode [0b00100111] = .ok (.daa, []) ∧
  decode [0b00011111] = .ok (.rra, []) ∧
  decode [0b11001011, 0b00101100] = .ok (.sra_h, []) ∧
  decode [0b11001011, 0b01000011] = .ok (.bit_0_e, []) ∧
  decode [0b11001011, 0b10000110] = .ok (.res_0_atHL, []) ∧
  decode [0b11001011, 0b11111111] = .ok (.set_7_a, []) ∧
  decode [0b11011010, 0b00100011, 0b11000001] = .ok (.jp_c_nn 0xC123, []) ∧
  decode [0b00111000, 0b11111100] = .ok (.jr_c_e 0xFC, []) ∧
  decode [0b11101111] = .ok (.rst_28h, []) ∧
  decode [0b11011001] = .ok (.reti, []) ∧
  decode [0b11101101] = .ok (.undef_ed, []) ∧
  decode [0b11111011, 0b11001001] = .ok (.ei, [0xC9])

/-! ### Steps -/

/-- With ACCESS_TIMING = instruction, a step of a CPU that is to execute runs the instruction that the bytes at PC decode to, PC past it, and then
advances the devices. -/
def Obligations.StepRunsTheDecodedInstruction : Prop :=
  ∀ (s : State) (i : Instr) (rest : List Byte),
    s.cfg.accessTiming = .instruction → s.Executes → s.cpu.haltBug = false →
    decode [s.read s.cpu.pc, s.read (s.cpu.pc + 1), s.read (s.cpu.pc + 2)] = .ok (i, rest) →
    step s = Answer.andThen
      (exec i
        { s with
          cycles := if s.read s.cpu.pc = 0x10 then 4 else 4 * (3 - rest.length)
          cpu := { s.cpu with
            halted := false
            ime := s.cpu.ime || s.cpu.eiPending
            eiPending := false
            pc := s.cpu.pc + BitVec.ofNat 16 (3 - rest.length) } })
      State.finish

/-- The same for both values of ACCESS_TIMING and with the halt bug: each operand byte is read in an M-cycle of its own (the byte after STOP in the
opcode's), and with the halt bug the opcode's byte is read again as the byte after it. -/
def Obligations.FetchTakesItsCyclesAndTheHaltBug : Prop :=
  ∀ (s : State) (i : Instr) (rest : List Byte) (p : Word),
    s.Executes → p = (if s.cpu.haltBug then s.cpu.pc else s.cpu.pc + 1) →
    decode
      [s.read s.cpu.pc,
       (if s.read s.cpu.pc = 0x10 then s.awake else s.awake.mcycles 1).read p,
       (s.awake.mcycles 2).read (p + 1)] = .ok (i, rest) →
    step s = Answer.andThen
      (exec i
        (State.setCpu (if s.read s.cpu.pc = 0x10 then s.awake else s.awake.mcycles (2 - rest.length))
          { s.awake.cpu with haltBug := false, pc := p + BitVec.ofNat 16 (2 - rest.length) }))
      State.finish

/-- The whole of R310, ACCESS_TIMING = instruction: stopped, idle, dispatch, or one instruction. -/
def Obligations.StepFollowsItsOrder : Prop :=
  ∀ s : State, s.cfg.accessTiming = .instruction →
    (s.cpu.stopped = true → step s = .next { s with cycles := 4 }) ∧
    (s.cpu.stopped = false → s.cpu.halted = true → s.ints.pend = 0 → step s = .next (State.advance 4 { s with cycles := 4 })) ∧
    (s.cpu.stopped = false → s.cpu.ime = true → s.ints.pend ≠ 0 →
      ∃ k : Source, s.ints.pend.getLsbD k.index = true ∧ (∀ j < k.index, s.ints.pend.getLsbD j = false) ∧
        ∃ w : State,
          w = (State.write
                (State.write
                  { s with
                    cycles := 20
                    ints := { s.ints with flags := s.ints.flags &&& ~~~ BitVec.twoPow 5 k.index }
                    cpu := { s.cpu with halted := false, ime := false, eiPending := false } }
                  (s.cpu.sp - 1) (hiByte s.cpu.pc))
                (s.cpu.sp - 2) (loByte s.cpu.pc)) ∧
          step s = .next
            ((w.setCpu { w.cpu with sp := s.cpu.sp - 2, pc := 0x0040 + BitVec.ofNat 16 (8 * k.index) }).advance 20)) ∧
    (s.Executes →
      step s = Answer.andThen (exec s.nextInstr s.awake.fetchInstr.2) (fun t => t.advance t.cycles))

/-- Under the default policies a step always answers a next state and takes 4 to 24 T-cycles, a multiple of 4. -/
def Obligations.StepIsTotal : Prop :=
  ∀ s : State, s.cfg.undefPolicy = .nop → s.cfg.stopPolicy = .asSpecified →
    ∃ t : State, step s = .next t ∧ 4 ≤ t.cycles ∧ t.cycles ≤ 24 ∧ t.cycles % 4 = 0

/-- Every cost, against the columns of spec/opcode_table.json; all are multiples of 4, and nothing advances in a stopped step. -/
def Obligations.StepCostsFollowTheTable : Prop :=
  ∀ s t : State, step s = .next t →
    t.cycles % 4 = 0 ∧ (s.cpu.stopped = true → t = { s with cycles := 4 }) ∧
    t.cycles =
      if s.cpu.stopped then 4
      else if s.cpu.halted ∧ s.ints.pend = 0 then 4
      else if s.cpu.ime ∧ s.ints.pend ≠ 0 then 20
      else costOf s.nextInstr s.cpu.f

/-- A step never faults, and refuses only where the spec's own policy parameters say so: exactly then. -/
def Obligations.OnlyThePoliciesRefuse : Prop :=
  ∀ s : State,
    (∀ f : Fault, step s ≠ .fault f) ∧
    (∀ r : Refusal, step s = .refused r ↔
      s.Executes ∧
        ((∃ op : Byte, r = .undefinedOpcode op ∧ s.cfg.undefPolicy = .refuse ∧ s.read s.cpu.pc = op ∧
            op ∈ ([0xD3, 0xDB, 0xDD, 0xE3, 0xE4, 0xEB, 0xEC, 0xED, 0xF4, 0xFC, 0xFD] : List Byte)) ∨
         (r = .stopOpcode ∧ s.cfg.stopPolicy = .refuse ∧ s.read s.cpu.pc = 0x10)))

/-- IME, the EI latch, the halt latch and bug and the stop latch after every step: only DI, EI, RETI, HALT, STOP and dispatch change them. That HALT
looks at the sources pending before its own M-cycle's device time is, under ACCESS_TIMING = mcycle, the model's choice (log entry 20). -/
def Obligations.ControlStateChanges : Prop :=
  ∀ s t : State, step s = .next t →
    (s.cpu.stopped = true → t.cpu = s.cpu) ∧
    (s.cpu.stopped = false → s.cpu.halted = true → s.ints.pend = 0 → t.cpu = s.cpu) ∧
    (s.cpu.stopped = false → s.cpu.ime = true → s.ints.pend ≠ 0 →
      t.cpu.ime = false ∧ t.cpu.eiPending = false ∧ t.cpu.halted = false ∧ t.cpu.haltBug = s.cpu.haltBug ∧ t.cpu.stopped = false) ∧
    (s.Executes →
      t.cpu.ime =
        (if s.nextInstr = .di then false else if s.nextInstr = .reti then true else s.cpu.ime || s.cpu.eiPending) ∧
      t.cpu.eiPending = decide (s.nextInstr = .ei) ∧
      t.cpu.halted = decide (s.nextInstr = .halt ∧ ((s.cpu.ime || s.cpu.eiPending) = true ∨ s.ints.pend = 0)) ∧
      t.cpu.haltBug = decide (s.nextInstr = .halt ∧ (s.cpu.ime || s.cpu.eiPending) = false ∧ s.ints.pend ≠ 0) ∧
      t.cpu.stopped = decide (s.read s.cpu.pc = 0x10))

/-! ### Invariants -/

/-- Every step keeps the invariant of Safety.lean: flag nibble, halt bug, timer, joypad, PPU schedule, APU ranges, canonical memories. The window
counter's bound 144 is the model's, by R400 (log entry 18); R361 lists 0..143. -/
def Obligations.StepKeepsTheInvariant : Prop :=
  ∀ s t : State, s.Inv → step s = .next t → t.Inv

/-- The invariant holds at reset, with the default parameters and the blank cartridge (log entry 2). -/
def Obligations.ResetHasTheInvariant : Prop := State.reset.Inv

/-- The run of the block with the host's calls as its input (R500): what each call answers and leaves, that a call before the first load is not
defined, and that every call and every run keep the invariant, which a loaded cartridge starts with. -/
def Obligations.HostCallsKeepTheInvariant : Prop :=
  (∀ (cfg : Config) (rom : List Byte) (save : Option (List Byte)) (t : State),
    cfg.wellFormed = true → Memory.Ok cfg.initWram 0x2000 → Memory.Ok cfg.initHram 127 →
    loadCartridge cfg rom save = .ok t → t.Inv) ∧
  (∀ (s : State) (mask : Byte), s.Inv → s.takeFrame.2.Inv ∧ s.drainSamples.2.Inv ∧ (s.setJoypad mask).Inv) ∧
  (∀ (cfg : Config) (block : Option State) (calls : List HostCall) (t : State),
    cfg.wellFormed = true → Memory.Ok cfg.initWram 0x2000 → Memory.Ok cfg.initHram 127 → (∀ s : State, block = some s → s.Inv) →
    (runHost cfg block calls).2 = some t → t.Inv) ∧
  (∀ (cfg : Config) (block : Option State) (rom : List Byte) (save : Option (List Byte)),
    (∀ t : State, loadCartridge cfg rom save = .ok t → hostCall cfg block (.loadCartridge rom save) = (.loaded, some t)) ∧
    (∀ e : LoadError, loadCartridge cfg rom save = .error e → hostCall cfg block (.loadCartridge rom save) = (.invalidRom, block))) ∧
  (∀ (cfg : Config) (s t : State), step s = .next t → hostCall cfg (some s) .step = (.cycles t.cycles, some t)) ∧
  (∀ (cfg : Config) (s : State) (mask : Byte),
    hostCall cfg (some s) .frameReady = (.frame s.takeFrame.1, some s.takeFrame.2) ∧
    hostCall cfg (some s) .audioSamples = (.samples s.drainSamples.1, some s.drainSamples.2) ∧
    hostCall cfg (some s) (.setJoypadState mask) = (.joypadSet, some (s.setJoypad mask)) ∧
    hostCall cfg (some s) .saveRam = (.ram s.saveRam, some s)) ∧
  (∀ (cfg : Config) (call : HostCall), (∀ rom save, call ≠ .loadCartridge rom save) → hostCall cfg none call = (.noMachine, none)) ∧
  (∀ (cfg : Config) (block middle : Option State) (before after : List HostCall) (answers : List HostAnswer),
    runHost cfg block before = (answers, middle) → (∀ a ∈ answers, a.ends = false) →
    runHost cfg block (before ++ after) = (answers ++ (runHost cfg middle after).1, (runHost cfg middle after).2))

/-- What no step changes: the parameters, the cartridge's image, kind and sizes, and the buttons, which only the host sets. -/
def Obligations.StepLeavesTheCartridgeImage : Prop :=
  ∀ s t : State, step s = .next t →
    t.cfg = s.cfg ∧ t.cart.rom = s.cart.rom ∧ t.cart.kind = s.cart.kind ∧ t.cart.battery = s.cart.battery ∧
    t.cart.romSize = s.cart.romSize ∧ t.cart.ramSize = s.cart.ramSize ∧ t.joypad.buttons = s.joypad.buttons

/-- The table of R48, whatever cartridge is loaded and under all parameters. -/
def Obligations.ResetValues : Prop :=
  ∀ (cfg : Config) (rom : List Byte) (save : Option (List Byte)) (s : State), loadCartridge cfg rom save = .ok s →
    (s.cpu.a = 0x01 ∧ s.cpu.f = 0xB0 ∧ s.cpu.b = 0x00 ∧ s.cpu.c = 0x13 ∧ s.cpu.d = 0x00 ∧ s.cpu.e = 0xD8 ∧ s.cpu.h = 0x01 ∧
      s.cpu.l = 0x4D ∧ s.cpu.pc = 0x0100 ∧ s.cpu.sp = 0xFFFE) ∧
    (s.cpu.ime = false ∧ s.cpu.eiPending = false ∧ s.cpu.halted = false ∧ s.cpu.haltBug = false ∧ s.cpu.stopped = false) ∧
    (s.read 0xFFFF = 0x00 ∧ s.ints.flags = 0x01 ∧ s.read 0xFF0F = 0xE1) ∧
    (s.timer.div16 = 0xABCC ∧ s.read 0xFF04 = 0xAB ∧ s.read 0xFF05 = 0x00 ∧ s.read 0xFF06 = 0x00 ∧ s.timer.tac = 0 ∧
      s.read 0xFF07 = 0xF8 ∧ s.timer.lastSig = false ∧ s.timer.reloadIn = none) ∧
    (s.joypad.p1Sel = 0b00 ∧ s.read 0xFF00 = 0xCF ∧ s.joypad.buttons = 0x00 ∧ s.joypad.p1Prev = 0b1111) ∧
    (s.read 0xFF01 = 0x00 ∧ s.read 0xFF02 = 0x7E) ∧
    (s.read 0xFF40 = 0x91 ∧ s.ppu.statMask = 0 ∧ s.read 0xFF41 = 0x86 ∧ s.read 0xFF42 = 0x00 ∧ s.read 0xFF43 = 0x00 ∧
      s.read 0xFF44 = 0x00 ∧ s.read 0xFF45 = 0x00 ∧ s.read 0xFF46 = 0xFF ∧ s.read 0xFF47 = 0xFC ∧ s.read 0xFF48 = 0xFF ∧
      s.read 0xFF49 = 0xFF ∧ s.read 0xFF4A = 0x00 ∧ s.read 0xFF4B = 0x00 ∧ s.ppu.mode.number = 2 ∧ s.ppu.dot = 0) ∧
    ((List.range 23).map fun k => s.read (0xFF10 + BitVec.ofNat 16 k)) =
      [0x80, 0xBF, 0xF3, 0xFF, 0xBF, cfg.openBus, 0x3F, 0x00, 0xFF, 0xBF, 0x7F, 0xFF, 0x9F, 0xFF, 0xBF, cfg.openBus, 0xFF, 0x00, 0x00,
       0xBF, 0x77, 0xF3, 0xF1] ∧
    (∀ k < 16, s.apu.ch3.wave.read k = 0x00) ∧
    (s.cart.mbc.ramEnable = false ∧ s.cart.mbc.romBankLo = 1 ∧ s.cart.mbc.bankHi = 0 ∧ s.cart.mbc.mode = false) ∧
    (∀ k, s.wram.read k = Memory.read cfg.initWram k ∧ s.hram.read k = Memory.read cfg.initHram k ∧ s.ppu.vram.read k = 0x00 ∧
      s.ppu.oam.read k = 0x00) ∧
    (s.ppu.frameReady = false ∧ s.apu.queue = [] ∧ ∀ (y x : Nat) (hy : y < 144) (hx : x < 160), s.ppu.front[y][x] = 0)

/-! ### Loads and stores: results and completion -/

/-- `LD r,r'` (49 rows), `LD r,n` (7 rows), `LD r,(HL)` (7 rows), `LD A,(BC)`, `LD A,(DE)`, `LD A,(nn)`, `LDH A,(C)`, `LDH A,(n)`, `LD A,(HL+)`,
`LD A,(HL-)`: a byte of memory is read in an M-cycle of its own. -/
def Obligations.ByteLoads : Prop :=
  ∀ s : State,
    (∀ dst r : Reg8, exec (.ldRegReg dst r) s = .next (s.setCpu (s.cpu.set dst (s.cpu.get r)))) ∧
    (∀ (r : Reg8) (n : Byte), exec (.ldRegImm r n) s = .next (s.setCpu (s.cpu.set r n))) ∧
    (∀ r : Reg8, exec (.ldRegAtHL r) s = .next (s.mcycle.setCpu (s.cpu.set r (s.mcycle.read s.cpu.hl)))) ∧
    exec .ld_a_atBC s = .next (s.mcycle.setCpu { s.cpu with a := s.mcycle.read (wordOf s.cpu.b s.cpu.c) }) ∧
    exec .ld_a_atDE s = .next (s.mcycle.setCpu { s.cpu with a := s.mcycle.read (wordOf s.cpu.d s.cpu.e) }) ∧
    (∀ nn : Word, exec (.ld_a_atNN nn) s = .next (s.mcycle.setCpu { s.cpu with a := s.mcycle.read nn })) ∧
    exec .ldh_a_atC s = .next (s.mcycle.setCpu { s.cpu with a := s.mcycle.read (BitVec.ofNat 16 (0xFF00 + s.cpu.c.toNat)) }) ∧
    (∀ n : Byte, exec (.ldh_a_atN n) s = .next (s.mcycle.setCpu { s.cpu with a := s.mcycle.read (BitVec.ofNat 16 (0xFF00 + n.toNat)) })) ∧
    exec .ld_a_atHLinc s = .next (s.mcycle.setCpu
      { s.cpu with a := s.mcycle.read s.cpu.hl, h := hiByte (s.cpu.hl + 1), l := loByte (s.cpu.hl + 1) }) ∧
    exec .ld_a_atHLdec s = .next (s.mcycle.setCpu
      { s.cpu with a := s.mcycle.read s.cpu.hl, h := hiByte (s.cpu.hl - 1), l := loByte (s.cpu.hl - 1) })

/-- `LD (HL),r` (7 rows), `LD (HL),n`, `LD (BC),A`, `LD (DE),A`, `LD (nn),A`, `LDH (C),A`, `LDH (n),A`, `LD (HL+),A`, `LD (HL-),A` and `LD (nn),SP`: each store
in an M-cycle of its own, `LD (nn),SP` the low byte first. -/
def Obligations.ByteAndWordStores : Prop :=
  ∀ s : State,
    (∀ r : Reg8, exec (.ldAtHLReg r) s = .next (s.mcycle.write s.cpu.hl (s.cpu.get r))) ∧
    (∀ n : Byte, exec (.ld_atHL_n n) s = .next (s.mcycle.write s.cpu.hl n)) ∧
    exec .ld_atBC_a s = .next (s.mcycle.write (wordOf s.cpu.b s.cpu.c) s.cpu.a) ∧
    exec .ld_atDE_a s = .next (s.mcycle.write (wordOf s.cpu.d s.cpu.e) s.cpu.a) ∧
    (∀ nn : Word, exec (.ld_atNN_a nn) s = .next (s.mcycle.write nn s.cpu.a)) ∧
    exec .ldh_atC_a s = .next (s.mcycle.write (BitVec.ofNat 16 (0xFF00 + s.cpu.c.toNat)) s.cpu.a) ∧
    (∀ n : Byte, exec (.ldh_atN_a n) s = .next (s.mcycle.write (BitVec.ofNat 16 (0xFF00 + n.toNat)) s.cpu.a)) ∧
    (∀ w : State, w = s.mcycle.write s.cpu.hl s.cpu.a →
      exec .ld_atHLinc_a s = .next (w.setCpu { w.cpu with h := hiByte (s.cpu.hl + 1), l := loByte (s.cpu.hl + 1) }) ∧
      exec .ld_atHLdec_a s = .next (w.setCpu { w.cpu with h := hiByte (s.cpu.hl - 1), l := loByte (s.cpu.hl - 1) })) ∧
    (∀ nn : Word, exec (.ld_atNN_sp nn) s =
      .next (State.write (State.write s.mcycle nn (loByte s.cpu.sp)).mcycle (nn + 1) (hiByte s.cpu.sp)))

/-- `LD rr,nn` (4 rows), `LD SP,HL`, `LD HL,SP+e`, `ADD SP,e`: the two displacements are signed, their flags the unsigned carries of the low byte. -/
def Obligations.WordLoadsAndStackPointer : Prop :=
  ∀ s : State,
    (∀ nn : Word,
      exec (.ld_bc_nn nn) s = .next (s.setCpu { s.cpu with b := hiByte nn, c := loByte nn }) ∧
      exec (.ld_de_nn nn) s = .next (s.setCpu { s.cpu with d := hiByte nn, e := loByte nn }) ∧
      exec (.ld_hl_nn nn) s = .next (s.setCpu { s.cpu with h := hiByte nn, l := loByte nn }) ∧
      exec (.ld_sp_nn nn) s = .next (s.setCpu { s.cpu with sp := nn })) ∧
    exec .ld_sp_hl s = .next (s.mcycle.setCpu { s.cpu with sp := s.cpu.hl }) ∧
    (∀ (e : Byte) (r : Word) (f : Byte),
      r = BitVec.ofInt 16 ((s.cpu.sp.toNat : Int) + e.toInt) →
      f = flagValue false false (decide (s.cpu.sp.toNat % 16 + e.toNat % 16 > 0x0F)) (decide (s.cpu.sp.toNat % 256 + e.toNat > 0xFF)) →
      exec (.ld_hl_sp_e e) s = .next (s.mcycle.setCpu { s.cpu with h := hiByte r, l := loByte r, f := f }) ∧
      exec (.add_sp_e e) s = .next (s.mcycle.mcycle.setCpu { s.cpu with sp := r, f := f }))

/-- `PUSH qq` (4 rows): an internal M-cycle, the high byte at SP - 1, the low byte at SP - 2, SP down by 2. `POP qq` and `POP AF` (4 rows): the low byte
at SP, the high byte at SP + 1, SP up by 2; F takes only the upper nibble. -/
def Obligations.PushAndPop : Prop :=
  (∀ (s w : State) (q : StackPair) (v : Word),
    v = (match q with
      | .bc => wordOf s.cpu.b s.cpu.c
      | .de => wordOf s.cpu.d s.cpu.e
      | .hl => wordOf s.cpu.h s.cpu.l
      | .af => wordOf s.cpu.a s.cpu.f) →
    w = State.write (State.write (s.mcycles 2) (s.cpu.sp - 1) (hiByte v)).mcycle (s.cpu.sp - 2) (loByte v) →
    exec (.push q) s = .next (w.setCpu { w.cpu with sp := s.cpu.sp - 2 })) ∧
  (∀ (s : State) (lo hi : Byte),
    lo = s.mcycle.read s.cpu.sp → hi = (s.mcycles 2).read (s.cpu.sp + 1) →
    exec .pop_bc s = .next ((s.mcycles 2).setCpu { s.cpu with b := hi, c := lo, sp := s.cpu.sp + 2 }) ∧
    exec .pop_de s = .next ((s.mcycles 2).setCpu { s.cpu with d := hi, e := lo, sp := s.cpu.sp + 2 }) ∧
    exec .pop_hl s = .next ((s.mcycles 2).setCpu { s.cpu with h := hi, l := lo, sp := s.cpu.sp + 2 }) ∧
    exec .pop_af s = .next ((s.mcycles 2).setCpu { s.cpu with a := hi, f := BitVec.ofNat 8 (lo.toNat / 16 * 16), sp := s.cpu.sp + 2 }))

/-- A value pushed onto a stack in work RAM or high RAM and popped into any pair is that value again (F without its lower nibble), with SP as before. -/
def Obligations.PushThenPop : Prop :=
  ∀ (s t u : State) (q q' : StackPair),
    (∀ a : Word, a = s.cpu.sp - 1 ∨ a = s.cpu.sp - 2 → regionOf a = .wram ∨ regionOf a = .hram) →
    exec (.push q) s = .next t → exec (.pop q') t = .next u →
    u.cpu.sp = s.cpu.sp ∧
    u.cpu.getStackPair q' = (if q' = .af then s.cpu.getStackPair q &&& 0xFFF0 else s.cpu.getStackPair q)

/-! ### Arithmetic and logic: results and completion -/

/-- `ADD`, `ADC`, `SUB`, `SBC`, `CP` (45 rows) in numbers, and `AND`, `XOR`, `OR` (27 rows) bit by bit, with A and a register, (HL) or an immediate. -/
def Obligations.AluOperations : Prop :=
  ∀ (i : Instr) (s u : State) (v : Byte) (a n c : Nat), a = s.cpu.a.toNat → n = v.toNat → c = (cFlag s.cpu.f).toNat →
    (AluForm .add i s u v → exec i s = .next (u.setCpu
      { s.cpu with
        a := BitVec.ofNat 8 (a + n)
        f := flagValue (decide ((a + n) % 256 = 0)) false (decide (a % 16 + n % 16 > 0x0F)) (decide (a + n > 0xFF)) })) ∧
    (AluForm .adc i s u v → exec i s = .next (u.setCpu
      { s.cpu with
        a := BitVec.ofNat 8 (a + n + c)
        f := flagValue (decide ((a + n + c) % 256 = 0)) false (decide (a % 16 + n % 16 + c > 0x0F)) (decide (a + n + c > 0xFF)) })) ∧
    (AluForm .sub i s u v → exec i s = .next (u.setCpu
      { s.cpu with
        a := BitVec.ofNat 8 (a + 256 - n)
        f := flagValue (decide (a = n)) true (decide (a % 16 < n % 16)) (decide (a < n)) })) ∧
    (AluForm .sbc i s u v → exec i s = .next (u.setCpu
      { s.cpu with
        a := BitVec.ofNat 8 (a + 512 - n - c)
        f := flagValue (decide ((a + 512 - n - c) % 256 = 0)) true (decide (a % 16 < n % 16 + c)) (decide (a < n + c)) })) ∧
    (AluForm .cp i s u v → exec i s = .next (u.setCpu
      { s.cpu with f := flagValue (decide (a = n)) true (decide (a % 16 < n % 16)) (decide (a < n)) })) ∧
    (AluForm .and i s u v → ∃ r : Byte, (∀ k, r.getLsbD k = (s.cpu.a.getLsbD k && v.getLsbD k)) ∧
      exec i s = .next (u.setCpu { s.cpu with a := r, f := flagValue (decide (r = 0)) false true false })) ∧
    (AluForm .xor i s u v → ∃ r : Byte, (∀ k, r.getLsbD k = (s.cpu.a.getLsbD k ^^ v.getLsbD k)) ∧
      exec i s = .next (u.setCpu { s.cpu with a := r, f := flagValue (decide (r = 0)) false false false })) ∧
    (AluForm .or i s u v → ∃ r : Byte, (∀ k, r.getLsbD k = (s.cpu.a.getLsbD k || v.getLsbD k)) ∧
      exec i s = .next (u.setCpu { s.cpu with a := r, f := flagValue (decide (r = 0)) false false false }))

/-- `INC` and `DEC` of a register (14 rows) and of (HL) (2 rows), in numbers; flag C stays. -/
def Obligations.IncrementsAndDecrements : Prop :=
  ∀ (s : State) (c : Bool), c = cFlag s.cpu.f →
    (∀ (r : Reg8) (n : Nat), n = (s.cpu.get r).toNat →
      exec (.incOperand (.reg r)) s = .next (s.setCpu
        ({ s.cpu with f := flagValue (decide (n = 255)) false (decide (n % 16 = 15)) c }.set r (BitVec.ofNat 8 (n + 1)))) ∧
      exec (.decOperand (.reg r)) s = .next (s.setCpu
        ({ s.cpu with f := flagValue (decide (n = 1)) true (decide (n % 16 = 0)) c }.set r (BitVec.ofNat 8 (n + 255))))) ∧
    (∀ (n : Nat) (w w' : State), n = (s.mcycle.read s.cpu.hl).toNat →
      w = (s.mcycles 2).write s.cpu.hl (BitVec.ofNat 8 (n + 1)) → w' = (s.mcycles 2).write s.cpu.hl (BitVec.ofNat 8 (n + 255)) →
      exec .inc_atHL s = .next (w.setCpu { w.cpu with f := flagValue (decide (n = 255)) false (decide (n % 16 = 15)) c }) ∧
      exec .dec_atHL s = .next (w'.setCpu { w'.cpu with f := flagValue (decide (n = 1)) true (decide (n % 16 = 0)) c }))

/-- `DAA` by R213's addition case and subtraction case, in numbers. -/
def Obligations.DecimalAdjust : Prop :=
  ∀ (s : State) (a : Nat) (h c : Bool), a = s.cpu.a.toNat → h = hFlag s.cpu.f → c = cFlag s.cpu.f →
    (nFlag s.cpu.f = false → ∀ r : Byte,
      r = BitVec.ofNat 8 (a + (if c ∨ a > 0x99 then 0x60 else 0) + (if h ∨ a % 16 > 0x09 then 0x06 else 0)) →
      exec .daa s = .next (s.setCpu { s.cpu with a := r, f := flagValue (decide (r = 0)) false false (c || decide (a > 0x99)) })) ∧
    (nFlag s.cpu.f = true → ∀ r : Byte,
      r = BitVec.ofNat 8 (a + 256 - (if c then 0x60 else 0) - (if h then 0x06 else 0)) →
      exec .daa s = .next (s.setCpu { s.cpu with a := r, f := flagValue (decide (r = 0)) true false c }))

/-- What DAA is for: after an addition or subtraction of two-digit decimals, carry included, A is the two-digit decimal result and C its carry or
borrow. -/
def Obligations.DaaIsDecimal : Prop :=
  ∀ (bcd : Nat → Byte) (s t u : State) (x y : Nat), (∀ k, bcd k = BitVec.ofNat 8 (16 * (k / 10) + k % 10)) →
    x < 100 → y < 100 → s.cpu.a = bcd x →
    (∀ k : Nat, k = (cFlag s.cpu.f).toNat → exec (.aluImm .adc (bcd y)) s = .next t → exec .daa t = .next u →
      u.cpu.a = bcd ((x + y + k) % 100) ∧ cFlag u.cpu.f = decide (100 ≤ x + y + k)) ∧
    (∀ k : Nat, k = (cFlag s.cpu.f).toNat → exec (.aluImm .sbc (bcd y)) s = .next t → exec .daa t = .next u →
      u.cpu.a = bcd ((x + 100 - y + 100 - k) % 100) ∧ cFlag u.cpu.f = decide (x < y + k))

/-- `RLCA`, `RRCA`, `RLA`, `RRA`, `CPL`, `SCF`, `CCF`, in numbers. -/
def Obligations.AccumulatorAndCarry : Prop :=
  ∀ (s : State) (a c : Nat), a = s.cpu.a.toNat → c = (cFlag s.cpu.f).toNat →
    exec .rlca s = .next (s.setCpu { s.cpu with a := BitVec.ofNat 8 (2 * a + a / 128), f := flagValue false false false (decide (128 ≤ a)) }) ∧
    exec .rrca s = .next (s.setCpu
      { s.cpu with a := BitVec.ofNat 8 (a / 2 + 128 * (a % 2)), f := flagValue false false false (decide (a % 2 = 1)) }) ∧
    exec .rla s = .next (s.setCpu { s.cpu with a := BitVec.ofNat 8 (2 * a + c), f := flagValue false false false (decide (128 ≤ a)) }) ∧
    exec .rra s = .next (s.setCpu
      { s.cpu with a := BitVec.ofNat 8 (a / 2 + 128 * c), f := flagValue false false false (decide (a % 2 = 1)) }) ∧
    exec .cpl s = .next (s.setCpu
      { s.cpu with a := BitVec.ofNat 8 (255 - a), f := flagValue (zFlag s.cpu.f) true true (cFlag s.cpu.f) }) ∧
    exec .scf s = .next (s.setCpu { s.cpu with f := flagValue (zFlag s.cpu.f) false false true }) ∧
    exec .ccf s = .next (s.setCpu { s.cpu with f := flagValue (zFlag s.cpu.f) false false (!cFlag s.cpu.f) })

/-- `ADD HL,rr`, `INC rr`, `DEC rr` (12 rows), in numbers. -/
def Obligations.WordArithmetic : Prop :=
  ∀ (s : State) (p : Pair) (n : Nat), n = (s.cpu.getPair p).toNat →
    (∀ (h : Nat) (r : Word), h = s.cpu.hl.toNat → r = BitVec.ofNat 16 (h + n) →
      exec (.addHL p) s = .next (s.mcycle.setCpu
        { s.cpu with
          h := hiByte r
          l := loByte r
          f := flagValue (zFlag s.cpu.f) false (decide (h % 4096 + n % 4096 > 0x0FFF)) (decide (h + n > 0xFFFF)) })) ∧
    exec (.incPair p) s = .next (s.mcycle.setCpu (s.cpu.setPair p (BitVec.ofNat 16 (n + 1)))) ∧
    exec (.decPair p) s = .next (s.mcycle.setCpu (s.cpu.setPair p (BitVec.ofNat 16 (n + 65535))))

/-- The prefixed rotates and shifts of a register (56 rows) and of (HL) (8 rows), by the numbers of R245 to R252. -/
def Obligations.RotatesAndShifts : Prop :=
  ∀ (s : State) (op : ShiftOp) (c : Nat), c = (cFlag s.cpu.f).toNat →
    (∀ (r : Reg8) (v : Nat), v = (shiftByRule op (s.cpu.get r).toNat c).1 →
      exec (.shift op (.reg r)) s = .next (s.setCpu
        ({ s.cpu with f := flagValue (decide (v = 0)) false false (shiftByRule op (s.cpu.get r).toNat c).2 }.set r (BitVec.ofNat 8 v)))) ∧
    (∀ (n v : Nat) (w : State), n = (s.mcycle.read s.cpu.hl).toNat → v = (shiftByRule op n c).1 →
      w = (s.mcycles 2).write s.cpu.hl (BitVec.ofNat 8 v) →
      exec (.shift op .atHL) s = .next (w.setCpu { w.cpu with f := flagValue (decide (v = 0)) false false (shiftByRule op n c).2 }))

/-- `BIT`, `RES`, `SET` of a register (168 rows) and of (HL) (24 rows), bit by bit. -/
def Obligations.BitInstructions : Prop :=
  ∀ (s : State) (b : BitVec 3),
    (∀ r : Reg8, exec (.bit b (.reg r)) s = .next (s.setCpu
      { s.cpu with f := flagValue (!(s.cpu.get r).getLsbD b.toNat) false true (cFlag s.cpu.f) })) ∧
    exec (.bit b .atHL) s = .next (s.mcycle.setCpu
      { s.cpu with f := flagValue (!(s.mcycle.read s.cpu.hl).getLsbD b.toNat) false true (cFlag s.cpu.f) }) ∧
    (∀ r : Reg8, ∃ v v' : Byte,
      (∀ k < 8, v.getLsbD k = (if k = b.toNat then false else (s.cpu.get r).getLsbD k)) ∧
      (∀ k < 8, v'.getLsbD k = (if k = b.toNat then true else (s.cpu.get r).getLsbD k)) ∧
      exec (.res b (.reg r)) s = .next (s.setCpu (s.cpu.set r v)) ∧ exec (.set b (.reg r)) s = .next (s.setCpu (s.cpu.set r v'))) ∧
    (∃ v v' : Byte,
      (∀ k < 8, v.getLsbD k = (if k = b.toNat then false else (s.mcycle.read s.cpu.hl).getLsbD k)) ∧
      (∀ k < 8, v'.getLsbD k = (if k = b.toNat then true else (s.mcycle.read s.cpu.hl).getLsbD k)) ∧
      exec (.res b .atHL) s = .next ((s.mcycles 2).write s.cpu.hl v) ∧
      exec (.set b .atHL) s = .next ((s.mcycles 2).write s.cpu.hl v'))

/-! ### Control flow and CPU control: results and completion -/

/-- `JP nn`, `JP HL`, `JR e`, `JP cc,nn` (4 rows), `JR cc,e` (4 rows), taken and not taken. -/
def Obligations.Jumps : Prop :=
  ∀ (s : State) (nn : Word) (e : Byte) (r : Word), r = BitVec.ofInt 16 ((s.cpu.pc.toNat : Int) + e.toInt) →
    exec (.jp_nn nn) s = .next (s.mcycle.setCpu { s.cpu with pc := nn }) ∧
    exec .jp_hl s = .next (s.setCpu { s.cpu with pc := s.cpu.hl }) ∧
    exec (.jr_e e) s = .next (s.mcycle.setCpu { s.cpu with pc := r }) ∧
    (∀ (cc : Cond) (b : Bool),
      b = (match cc with | .nz => !zFlag s.cpu.f | .z => zFlag s.cpu.f | .nc => !cFlag s.cpu.f | .c => cFlag s.cpu.f) →
      exec (.jpCond cc nn) s = .next (if b then s.mcycle.setCpu { s.cpu with pc := nn } else s) ∧
      exec (.jrCond cc e) s = .next (if b then s.mcycle.setCpu { s.cpu with pc := r } else s))

/-- `CALL nn`, `CALL cc,nn` (4 rows), `RST t` (8 rows): the address after the instruction is pushed, PC goes to the target. `RET`, `RETI`, `RET cc` (4 rows): PC is
popped; RETI sets IME at once; `RET cc` first takes an internal M-cycle. -/
def Obligations.CallsAndReturns : Prop :=
  ∀ (s w : State) (nn ra ra' : Word),
    w = State.write (State.write (s.mcycles 2) (s.cpu.sp - 1) (hiByte s.cpu.pc)).mcycle (s.cpu.sp - 2) (loByte s.cpu.pc) →
    ra = wordOf ((s.mcycles 2).read (s.cpu.sp + 1)) (s.mcycle.read s.cpu.sp) →
    ra' = wordOf ((s.mcycles 3).read (s.cpu.sp + 1)) ((s.mcycles 2).read s.cpu.sp) →
    exec (.call_nn nn) s = .next (w.setCpu { w.cpu with sp := s.cpu.sp - 2, pc := nn }) ∧
    (∀ t : BitVec 3, exec (.rst t) s = .next (w.setCpu { w.cpu with sp := s.cpu.sp - 2, pc := BitVec.ofNat 16 (8 * t.toNat) })) ∧
    exec .ret s = .next ((s.mcycles 3).setCpu { s.cpu with sp := s.cpu.sp + 2, pc := ra }) ∧
    exec .reti s = .next ((s.mcycles 3).setCpu { s.cpu with sp := s.cpu.sp + 2, pc := ra, ime := true }) ∧
    (∀ (cc : Cond) (b : Bool),
      b = (match cc with | .nz => !zFlag s.cpu.f | .z => zFlag s.cpu.f | .nc => !cFlag s.cpu.f | .c => cFlag s.cpu.f) →
      exec (.callCond cc nn) s = .next (if b then w.setCpu { w.cpu with sp := s.cpu.sp - 2, pc := nn } else s) ∧
      exec (.retCond cc) s = .next (if b then (s.mcycles 4).setCpu { s.cpu with sp := s.cpu.sp + 2, pc := ra' } else s.mcycle))

/-- `NOP`, `DI`, `EI`, `HALT`, `STOP`, the eleven undefined opcodes and the row PREFIX_CB. STOP and the undefined opcodes are refused under the policies
that say so. PREFIX_CB (log entry 5) completes for every second byte: it reads that byte in an M-cycle, and its next state is that of the row that the
two bytes decode to. Under ACCESS_TIMING = mcycle it is the model's choice that HALT tests before its M-cycle's device time (log entry 20). -/
def Obligations.CpuControl : Prop :=
  ∀ s : State,
    exec .nop s = .next s ∧
    exec .di s = .next (s.setCpu { s.cpu with ime := false, eiPending := false }) ∧
    exec .ei s = .next (s.setCpu { s.cpu with eiPending := true }) ∧
    (∀ bug : Bool,
      (bug = true ↔ s.cpu.ime = false ∧ ∃ k : Source, s.ints.ie.getLsbD k.index = true ∧ s.ints.flags.getLsbD k.index = true) →
      exec .halt s = .next (s.setCpu (if bug then { s.cpu with haltBug := true } else { s.cpu with halted := true }))) ∧
    (∀ x : Byte,
      (s.cfg.stopPolicy = .asSpecified → exec (.stop x) s = .next (s.setCpu { s.cpu with stopped := true })) ∧
      (s.cfg.stopPolicy = .refuse → exec (.stop x) s = .refused .stopOpcode)) ∧
    (∀ p ∈ Instr.undefined,
      (s.cfg.undefPolicy = .nop → exec p.2 s = .next s) ∧
      (s.cfg.undefPolicy = .refuse → exec p.2 s = .refused (.undefinedOpcode p.1))) ∧
    (∃ (j : Instr) (t : State), decode [0xCB, s.mcycle.read s.cpu.pc] = .ok (j, []) ∧ exec .prefixCb s = .next t ∧
      exec j (s.mcycle.setCpu { s.cpu with pc := s.cpu.pc + 1 }) = .next t)

/-! ### Frames -/

/-- The flags of every instruction against the column `flags_ZNHC`: kept, cleared, set. F's lower nibble stays 0. -/
def Obligations.FlagsFollowTheTable : Prop :=
  ∀ (i : Instr) (s t : State), i.wellFormed = true → exec i s = .next t →
    (flagColumn i).z.Holds (zFlag s.cpu.f) (zFlag t.cpu.f) ∧
    (flagColumn i).n.Holds (nFlag s.cpu.f) (nFlag t.cpu.f) ∧
    (flagColumn i).h.Holds (hFlag s.cpu.f) (hFlag t.cpu.f) ∧
    (flagColumn i).c.Holds (cFlag s.cpu.f) (cFlag t.cpu.f) ∧
    (s.cpu.f &&& 0x0F = 0 → t.cpu.f &&& 0x0F = 0)

/-- Every register an instruction's rule does not write is unchanged: the seven 8-bit registers, SP, PC and the control bits. -/
def Obligations.RegisterFrame : Prop :=
  ∀ (i : Instr) (s t : State), i.wellFormed = true → exec i s = .next t →
    (∀ r : Reg8, r ∉ destinations i → t.cpu.get r = s.cpu.get r) ∧
    (writesSp i = false → t.cpu.sp = s.cpu.sp) ∧
    (writesPc i = false → t.cpu.pc = s.cpu.pc) ∧
    (i ≠ .di → i ≠ .reti → t.cpu.ime = s.cpu.ime) ∧
    (i ≠ .di → i ≠ .ei → t.cpu.eiPending = s.cpu.eiPending) ∧
    (i ≠ .halt → t.cpu.halted = s.cpu.halted ∧ t.cpu.haltBug = s.cpu.haltBug) ∧
    ((∀ x : Byte, i ≠ .stop x) → t.cpu.stopped = s.cpu.stopped ∨ (t.cpu.stopped = false ∧ 0xFF00 ∈ storedAt i s))

/-- An instruction that stores nothing changes the CPU and the time, nothing else: with ACCESS_TIMING = instruction every byte of memory reads as
before, and every device is as before. -/
def Obligations.FrameOfTheRest : Prop :=
  ∀ (i : Instr) (s t : State), i.wellFormed = true → exec i s = .next t → storedAt i s = [] →
    (∃ k : Nat, t = (s.mcycles k).setCpu t.cpu) ∧
    (s.cfg.accessTiming = .instruction →
      (∀ a : Word, t.read a = s.read a) ∧ t = { s with cpu := t.cpu, cycles := t.cycles })

/-- An instruction that stores, with ACCESS_TIMING = instruction: outside the stored bytes every byte of memory reads as before, where the addresses
stored to are not of ROM or the I/O page (a write there does what its register's rule says: R64, R71). -/
def Obligations.FrameOfStores : Prop :=
  ∀ (i : Instr) (s t : State), i.wellFormed = true → exec i s = .next t → s.cfg.accessTiming = .instruction →
    (∀ d ∈ storedAt i s, (regionOf d).plain = true) →
    ∀ a : Word, (∀ d ∈ storedAt i s, s.cellOf a ≠ s.cellOf d) → t.read a = s.read a

/-! ### Interrupts -/

/-- Interrupt entry in both timings: what is written, where PC goes, what is pushed, what is kept. -/
def Obligations.InterruptEntry : Prop :=
  ∀ (s t : State) (k : Source), s.cpu.stopped = false → s.cpu.ime = true →
    s.ints.pend.getLsbD k.index = true → (∀ j < k.index, s.ints.pend.getLsbD j = false) → step s = .next t →
    t.cycles = 20 ∧
    t.cpu =
      { s.cpu with
        sp := s.cpu.sp - 2
        pc := 0x0040 + BitVec.ofNat 16 (8 * k.index)
        ime := false
        eiPending := false
        halted := false } ∧
    (regionOf (s.cpu.sp - 1) = .wram ∨ regionOf (s.cpu.sp - 1) = .hram →
     regionOf (s.cpu.sp - 2) = .wram ∨ regionOf (s.cpu.sp - 2) = .hram →
      t.read (s.cpu.sp - 1) = BitVec.ofNat 8 (s.cpu.pc.toNat / 256) ∧ t.read (s.cpu.sp - 2) = BitVec.ofNat 8 s.cpu.pc.toNat)

/-- Selection: `pending()` is the lowest bit set in both IE and IF, `none` without one; requesting and acknowledging touch one bit of IF. -/
def Obligations.PendingRequestAcknowledge : Prop :=
  ∀ (c : Interrupts) (k : Source),
    (c.pending = some k ↔
      (c.ie.getLsbD k.index = true ∧ c.flags.getLsbD k.index = true) ∧
      ∀ j < k.index, ¬ (c.ie.getLsbD j = true ∧ c.flags.getLsbD j = true)) ∧
    (c.pending = none ↔ ∀ j < 5, ¬ (c.ie.getLsbD j = true ∧ c.flags.getLsbD j = true)) ∧
    ((c.requestIf true k).ie = c.ie ∧ (c.acknowledge k).ie = c.ie) ∧
    (∀ j < 5, (c.requestIf true k).flags.getLsbD j = (decide (j = k.index) || c.flags.getLsbD j) ∧
      (c.acknowledge k).flags.getLsbD j = (!decide (j = k.index) && c.flags.getLsbD j))

/-- The delay of EI: after EI has run with interrupts off, the next step takes no interrupt, whatever is pending: it runs the next instruction, with
IME set from then on. -/
def Obligations.EiDelay : Prop :=
  ∀ s t : State, s.Executes → s.cpu.ime = false → s.cpu.eiPending = false → s.nextInstr = .ei → step s = .next t →
    t.cpu.ime = false ∧ t.cpu.eiPending = true ∧ t.Executes ∧
    ∀ u : State, step t = .next u →
      (t.nextInstr ≠ .di → u.cpu.ime = true) ∧
      (t.nextInstr ≠ .di → u.cpu.stopped = false → u.ints.pend ≠ 0 →
        ∃ (k : Source) (v : State), step u = .next v ∧ v.cpu.pc = 0x0040 + BitVec.ofNat 16 (8 * k.index) ∧ v.cpu.ime = false)

/-! ### The bus -/

/-- The regions a program reaches without a gate: work RAM, its echo, the unusable region, high RAM, IE, the unmapped I/O addresses; and what a
store does and a load reads at the serial registers, IF, STAT, LYC, the scroll, palette and window registers, LY and wave RAM. -/
def Obligations.OpenRegions : Prop :=
  ∀ (s : State) (a : Word) (v : Byte),
    (0xC000 ≤ a.toNat → a.toNat ≤ 0xDFFF →
      s.read a = s.wram.read (a.toNat - 0xC000) ∧ s.write a v = { s with wram := s.wram.write (a.toNat - 0xC000) v }) ∧
    (0xE000 ≤ a.toNat → a.toNat ≤ 0xFDFF → s.read a = s.read (a - 0x2000) ∧ s.write a v = s.write (a - 0x2000) v) ∧
    (0xFEA0 ≤ a.toNat → a.toNat ≤ 0xFEFF → s.read a = s.cfg.openBus ∧ s.write a v = s) ∧
    (0xFF80 ≤ a.toNat → a.toNat ≤ 0xFFFE →
      s.read a = s.hram.read (a.toNat - 0xFF80) ∧ s.write a v = { s with hram := s.hram.write (a.toNat - 0xFF80) v }) ∧
    (a.toNat = 0xFFFF → s.read a = s.ints.ie ∧ s.write a v = { s with ints := { s.ints with ie := v } }) ∧
    ((a.toNat = 0xFF03 ∨ 0xFF08 ≤ a.toNat ∧ a.toNat ≤ 0xFF0E ∨ a.toNat = 0xFF15 ∨ a.toNat = 0xFF1F ∨
        0xFF27 ≤ a.toNat ∧ a.toNat ≤ 0xFF2F ∨ 0xFF4C ≤ a.toNat ∧ a.toNat ≤ 0xFF7F) →
      s.read a = s.cfg.openBus ∧ s.write a v = s) ∧
    (s.write 0xFF01 v = { s with serial := { s.serial with sb := v } } ∧ s.read 0xFF01 = s.serial.sb) ∧
    (s.write 0xFF02 v = { s with serial := { s.serial with sc7 := v.getLsbD 7, sc0 := v.getLsbD 0 } } ∧
      (s.read 0xFF02).toNat = 0x7E + 128 * s.serial.sc7.toNat + s.serial.sc0.toNat) ∧
    (s.write 0xFF0F v = { s with ints := { s.ints with flags := BitVec.ofNat 5 v.toNat } } ∧
      (s.read 0xFF0F).toNat = 0xE0 + s.ints.flags.toNat) ∧
    ((s.write 0xFF41 v).ppu = { s.ppu with statMask := BitVec.ofNat 4 (v.toNat / 8), statLine := (s.write 0xFF41 v).ppu.statLine } ∧
      (s.read 0xFF41).toNat =
        128 + 8 * s.ppu.statMask.toNat + 4 * (decide (s.ppu.ly = s.ppu.lyc.toNat)).toNat + s.ppu.mode.number.toNat) ∧
    ((s.write 0xFF45 v).ppu = { s.ppu with lyc := v, statLine := (s.write 0xFF45 v).ppu.statLine } ∧ s.read 0xFF45 = s.ppu.lyc) ∧
    (s.write 0xFF42 v = { s with ppu := { s.ppu with scy := v } } ∧ s.read 0xFF42 = s.ppu.scy) ∧
    (s.write 0xFF43 v = { s with ppu := { s.ppu with scx := v } } ∧ s.read 0xFF43 = s.ppu.scx) ∧
    (s.write 0xFF44 v = s ∧ (s.ppu.ly ≤ 153 → (s.read 0xFF44).toNat = s.ppu.ly)) ∧
    (s.write 0xFF47 v = { s with ppu := { s.ppu with bgp := v } } ∧ s.read 0xFF47 = s.ppu.bgp) ∧
    (s.write 0xFF48 v = { s with ppu := { s.ppu with obp0 := v } } ∧ s.read 0xFF48 = s.ppu.obp0) ∧
    (s.write 0xFF49 v = { s with ppu := { s.ppu with obp1 := v } } ∧ s.read 0xFF49 = s.ppu.obp1) ∧
    (s.write 0xFF4A v = { s with ppu := { s.ppu with wy := v } } ∧ s.read 0xFF4A = s.ppu.wy) ∧
    (s.write 0xFF4B v = { s with ppu := { s.ppu with wx := v } } ∧ s.read 0xFF4B = s.ppu.wx) ∧
    (0xFF30 ≤ a.toNat → a.toNat ≤ 0xFF3F →
      s.read a = s.apu.ch3.wave.read (a.toNat - 0xFF30) ∧
      s.write a v = { s with apu := { s.apu with ch3 := { s.apu.ch3 with wave := s.apu.ch3.wave.write (a.toNat - 0xFF30) v } } })

/-- The gates of VRAM and OAM by the PPU's mode, and of cartridge RAM by the controller. -/
def Obligations.GatedRegions : Prop :=
  ∀ (s : State) (a : Word) (v : Byte),
    (0x8000 ≤ a.toNat → a.toNat ≤ 0x9FFF →
      (s.ppu.lcdc.getLsbD 7 = true ∧ s.ppu.mode = .transfer → s.read a = s.cfg.openBus ∧ s.write a v = s) ∧
      (¬ (s.ppu.lcdc.getLsbD 7 = true ∧ s.ppu.mode = .transfer) →
        s.read a = s.ppu.vram.read (a.toNat - 0x8000) ∧
        s.write a v = { s with ppu := { s.ppu with vram := s.ppu.vram.write (a.toNat - 0x8000) v } })) ∧
    (0xFE00 ≤ a.toNat → a.toNat ≤ 0xFE9F →
      (s.ppu.lcdc.getLsbD 7 = true ∧ (s.ppu.mode = .oamScan ∨ s.ppu.mode = .transfer) → s.read a = s.cfg.openBus ∧ s.write a v = s) ∧
      (¬ (s.ppu.lcdc.getLsbD 7 = true ∧ (s.ppu.mode = .oamScan ∨ s.ppu.mode = .transfer)) →
        s.read a = s.ppu.oam.read (a.toNat - 0xFE00) ∧
        s.write a v = { s with ppu := { s.ppu with oam := s.ppu.oam.write (a.toNat - 0xFE00) v } })) ∧
    (0xA000 ≤ a.toNat → a.toNat ≤ 0xBFFF → s.cart.kind = .none ∨ s.cart.ramSize = 0 ∨ s.cart.mbc.ramEnable = false →
      s.read a = s.cfg.openBus ∧ s.write a v = s)

/-- A byte of storage written and read again, and every other byte of memory as before. -/
def Obligations.ReadAfterWrite : Prop :=
  ∀ (s : State) (a : Word) (v : Byte), (regionOf a).plain = true →
    (∀ b : Word, s.cellOf b ≠ s.cellOf a → (s.write a v).read b = s.read b) ∧
    (regionOf a ≠ .unusable → (regionOf a = .vram → s.ppu.vramOpen = true) → (regionOf a = .oam → s.ppu.oamOpen = true) →
      (regionOf a = .cartRam → s.cart.ramOpen = true) → (s.write a v).read a = v)

/-- What no write of a byte reaches: the image, the parameters, the CPU (but `stopped`, by a P1 write), and every part of the state outside the
address's own region; OAM can also change by a write of the DMA register. Within the I/O page a register's write changes its own device alone, and
IF where its rule requests an interrupt. -/
def Obligations.WriteFrame : Prop :=
  ∀ (s t : State) (a : Word) (v : Byte), t = s.write a v →
    t.cfg = s.cfg ∧ t.cycles = s.cycles ∧
    (t.cpu = s.cpu ∨ (a = 0xFF00 ∧ t.cpu = { s.cpu with stopped := false })) ∧
    (t.cart = { s.cart with mbc := t.cart.mbc, ram := t.cart.ram } ∧ (regionOf a ≠ .rom → t.cart.mbc = s.cart.mbc) ∧
      (regionOf a ≠ .cartRam → t.cart.ram = s.cart.ram)) ∧
    (regionOf a ≠ .wram → regionOf a ≠ .echo → t.wram = s.wram) ∧ (regionOf a ≠ .hram → t.hram = s.hram) ∧
    (regionOf a ≠ .vram → t.ppu.vram = s.ppu.vram) ∧ (regionOf a ≠ .oam → a ≠ 0xFF46 → t.ppu.oam = s.ppu.oam) ∧
    (regionOf a ≠ .ie → t.ints.ie = s.ints.ie) ∧
    (regionOf a ≠ .io →
      t.ints.flags = s.ints.flags ∧ t.timer = s.timer ∧ t.joypad = s.joypad ∧ t.serial = s.serial ∧ t.apu = s.apu ∧
      t.ppu = { s.ppu with vram := t.ppu.vram, oam := t.ppu.oam }) ∧
    (a = 0xFF00 → t = { s with joypad := t.joypad, cpu := t.cpu, ints := { s.ints with flags := t.ints.flags } } ∧
      ∀ k : Source, k ≠ .joypad → t.ints.flags.getLsbD k.index = s.ints.flags.getLsbD k.index) ∧
    (a = 0xFF01 ∨ a = 0xFF02 → t = { s with serial := t.serial }) ∧
    (0xFF04 ≤ a.toNat → a.toNat ≤ 0xFF07 → t = { s with timer := t.timer }) ∧
    (a = 0xFF0F → t = { s with ints := { s.ints with flags := t.ints.flags } }) ∧
    (0xFF10 ≤ a.toNat → a.toNat ≤ 0xFF3F → t = { s with apu := t.apu }) ∧
    (a = 0xFF40 ∨ a = 0xFF41 ∨ a = 0xFF45 → t = { s with ppu := t.ppu, ints := { s.ints with flags := t.ints.flags } } ∧
      ∀ k : Source, k ≠ .stat → t.ints.flags.getLsbD k.index = s.ints.flags.getLsbD k.index) ∧
    (0xFF42 ≤ a.toNat → a.toNat ≤ 0xFF4B → a ≠ 0xFF45 → t = { s with ppu := t.ppu })

/-- MBC1 and the cartridge without a controller: what ROM addresses read, the bank registers, and the RAM window, open and closed. -/
def Obligations.CartridgeBanks : Prop :=
  ∀ (s : State) (a : Word) (v : Byte),
    (s.cart.kind = .none →
      (a.toNat < 0x8000 → s.read a = s.cart.rom.read (a.toNat % s.cart.romSize) ∧ s.write a v = s) ∧
      (0xA000 ≤ a.toNat → a.toNat ≤ 0xBFFF → s.read a = s.cfg.openBus ∧ s.write a v = s)) ∧
    (s.cart.kind = .mbc1 →
      (a.toNat < 0x4000 → s.read a = s.cart.rom.read a.toNat) ∧
      (0x4000 ≤ a.toNat → a.toNat < 0x8000 →
        s.read a = s.cart.rom.read
          ((s.cart.mbc.bankHi.toNat * 32 + s.cart.mbc.romBankLo.toNat) % (s.cart.romSize / 0x4000) * 0x4000 + (a.toNat - 0x4000))) ∧
      (a.toNat < 0x8000 → s.write a v = { s with cart := { s.cart with mbc :=
        if a.toNat < 0x2000 then { s.cart.mbc with ramEnable := decide (v.toNat % 16 = 0xA) }
        else if a.toNat < 0x4000 then { s.cart.mbc with romBankLo := if v.toNat % 32 = 0 then 1 else BitVec.ofNat 5 v.toNat }
        else if a.toNat < 0x6000 then { s.cart.mbc with bankHi := BitVec.ofNat 2 v.toNat }
        else { s.cart.mbc with mode := decide (v.toNat % 2 = 1) } } }) ∧
      (0xA000 ≤ a.toNat → a.toNat ≤ 0xBFFF →
        (s.cart.ramSize = 0 ∨ s.cart.mbc.ramEnable = false → s.read a = s.cfg.openBus ∧ s.write a v = s) ∧
        (s.cart.ramSize ≠ 0 → s.cart.mbc.ramEnable = true → ∃ off : Nat,
          off = ((if s.cart.mbc.mode then s.cart.mbc.bankHi.toNat else 0) % max 1 (s.cart.ramSize / 8192) * 0x2000 +
            (a.toNat - 0xA000)) % s.cart.ramSize ∧
          s.read a = s.cart.ram.read off ∧ s.write a v = { s with cart := { s.cart with ram := s.cart.ram.write off v } })))

/-- A write of the DMA register copies 160 bytes into OAM at once, past the PPU's gates; pages 0xE0 and up read the work RAM mirror. -/
def Obligations.OamDma : Prop :=
  ∀ (s t : State) (v : Byte), t = s.write 0xFF46 v →
    t.read 0xFF46 = v ∧ (∀ (cfg : Config) (cart : Cartridge), (State.powerOn cfg cart).read 0xFF46 = 0xFF) ∧
    t = { s with ppu := { s.ppu with dma := v, oam := t.ppu.oam } } ∧
    (∀ (i : Nat) (src : Word), i < 160 →
      src = BitVec.ofNat 16 (if 0xE000 ≤ v.toNat * 0x100 + i then v.toNat * 0x100 + i - 0x2000 else v.toNat * 0x100 + i) →
      t.ppu.oam.read i = State.read { s with ppu := { s.ppu with lcdc := 0 } } src)

/-! ### The devices -/

/-- The three devices advance independently: `advance(n)` is n ticks of each, and IF gains bits, never loses one. -/
def Obligations.DevicesAdvanceApart : Prop :=
  ∀ (s : State) (n : Nat),
    (s.advance n).timer = Timer.tick^[n] s.timer ∧
    (s.advance n).ppu = (Ppu.tick s.cfg.mode3Len)^[n] s.ppu ∧
    (s.advance n).apu = (Apu.tick s.cfg.samplePeriod)^[n] s.apu ∧
    s.advance n = { s with timer := (s.advance n).timer, ppu := (s.advance n).ppu, apu := (s.advance n).apu, ints := (s.advance n).ints } ∧
    (s.advance n).ints.ie = s.ints.ie ∧
    (∀ k : Source, (s.advance n).ints.flags.getLsbD k.index = true ↔
      s.ints.flags.getLsbD k.index = true ∨
      ∃ m < n, (k = .timer ∧ (s.advance m).timer.reloads = true) ∨ (k = .vblank ∧ (s.advance m).ppu.tickVblank = true) ∨
        (k = .stat ∧ (s.advance m).ppu.tickStat s.cfg.mode3Len = true))

/-- TIMA counts the falling edges of the selected divider bit: its value after any number of T-cycles, while it does not wrap. -/
def Obligations.TimaCountsEdges : Prop :=
  ∀ (s : State) (n d p c : Nat), s.timer.Ok → s.timer.reloadIn = none → s.timer.tac.getLsbD 2 = true →
    p = (match s.timer.tac.toNat % 4 with | 0 => 1024 | 1 => 16 | 2 => 64 | _ => 256) →
    d = s.timer.div16.toNat → c = (d + n) / p - d / p → s.timer.tima.toNat + c ≤ 255 →
    (s.advance n).timer.tima.toNat = s.timer.tima.toNat + c ∧
    (s.advance n).timer.div16.toNat = (d + n) % 65536 ∧
    (s.advance n).timer.reloadIn = none ∧
    (s.advance n).ints.flags.getLsbD 2 = s.ints.flags.getLsbD 2

/-- The wrap of TIMA and its reload: the wrap starts a delay of 4 T-cycles in which TIMA reads 0; at the fourth TIMA takes TMA and the interrupt is
requested. -/
def Obligations.TimaReload : Prop :=
  (∀ t : Timer, t.tima = 0xFF → t.increment = { t with tima := 0x00, reloadIn := some 4 }) ∧
  (∀ (s : State) (n : Nat), s.timer.Ok → s.timer.reloadIn = some 4 → s.timer.signal = false → s.timer.tima = 0x00 → n < 4 →
    (s.advance n).timer.tima = 0x00 ∧ (s.advance n).timer.reloadIn = some (4 - n) ∧
    (s.advance n).ints.flags.getLsbD 2 = s.ints.flags.getLsbD 2) ∧
  (∀ s : State, s.timer.Ok → s.timer.reloadIn = some 4 → s.timer.signal = false →
    (s.advance 4).timer.tima = s.timer.tma ∧ (s.advance 4).timer.reloadIn = none ∧ (s.advance 4).ints.flags.getLsbD 2 = true)

/-- Writes of the timer's registers: DIV and TAC run the edge check, TIMA cancels a pending reload, TMA is stored for the reload. -/
def Obligations.TimerWrites : Prop :=
  ∀ (s : State) (v : Byte), s.timer.Ok →
    (∀ b : Bool, b = (s.timer.tac.getLsbD 2 && s.timer.div16.getLsbD (timerSelBit (s.timer.tac.extractLsb' 0 2))) →
      (s.write 0xFF04 v).timer =
        { (if b then s.timer.increment else s.timer) with div16 := 0, lastSig := false }) ∧
    (∀ b b' : Bool, b = (s.timer.tac.getLsbD 2 && s.timer.div16.getLsbD (timerSelBit (s.timer.tac.extractLsb' 0 2))) →
      b' = (v.getLsbD 2 && s.timer.div16.getLsbD (timerSelBit (v.extractLsb' 0 2))) →
      (s.write 0xFF07 v).timer =
        { (if b && !b' then s.timer.increment else s.timer) with tac := v.extractLsb' 0 3, lastSig := b' }) ∧
    (s.write 0xFF05 v).timer = { s.timer with tima := v, reloadIn := none } ∧
    (s.write 0xFF06 v).timer = { s.timer with tma := v } ∧
    (s.write 0xFF05 v).read 0xFF05 = v ∧ (s.write 0xFF06 v).read 0xFF06 = v ∧ (s.write 0xFF04 v).read 0xFF04 = 0x00 ∧
    (s.write 0xFF07 v).read 0xFF07 = (v ||| 0xF8)

/-- The PPU's schedule from the start of a frame: the k-th T-cycle leaves `dot = k mod 456`, `ly = (k div 456) mod 154` and the mode of the table. -/
def Obligations.PpuSchedule : Prop :=
  ∀ (s : State) (k : Nat), 172 ≤ s.cfg.mode3Len → s.cfg.mode3Len ≤ 289 → s.ppu.lcdc.getLsbD 7 = true →
    s.ppu.ly = 0 → s.ppu.dot = 0 → s.ppu.mode = .oamScan →
    (s.advance k).ppu.dot = k % 456 ∧ (s.advance k).ppu.ly = k / 456 % 154 ∧
    (s.advance k).ppu.mode =
      (if 144 ≤ k / 456 % 154 then .vblank else if k % 456 < 80 then .oamScan
       else if k % 456 < 80 + s.cfg.mode3Len then .transfer else .hblank)

/-- From any state in the invariant with the LCD on: in exactly one of 70,224 T-cycles `ly` becomes 144; that T-cycle requests VBlank, publishes the
frame drawn and makes it ready, and no other of them does. The host's `frame_ready()` returns the published frame once (R405). -/
def Obligations.OneVBlankPerFrame : Prop :=
  (∀ s : State, s.Inv → s.ppu.lcdc.getLsbD 7 = true →
    ∃ k : Nat, k < 70224 ∧
      (∀ j < 70224, ((s.advance j).ppu.ly ≠ 144 ∧ (s.advance (j + 1)).ppu.ly = 144) ↔ j = k) ∧
      (∀ j ≤ 70224,
        (s.advance j).ints.flags.getLsbD 0 = (s.ints.flags.getLsbD 0 || decide (k < j)) ∧
        (s.advance j).ppu.frameReady = (s.ppu.frameReady || decide (k < j)) ∧
        (s.advance j).ppu.front = (if k < j then (s.advance k).ppu.work else s.ppu.front)) ∧
      (s.advance 70224).ppu.ly = s.ppu.ly ∧ (s.advance 70224).ppu.dot = s.ppu.dot) ∧
  ∀ s : State,
    s.takeFrame.1 = (if s.ppu.frameReady then some s.ppu.front else none) ∧
    s.takeFrame.2 = { s with ppu := { s.ppu with frameReady := false } } ∧
    s.takeFrame.2.takeFrame.1 = none

/-- The STAT interrupt is requested on the rising edge of the OR of the enabled conditions, after every dot and after writes of LCDC, STAT and LYC. -/
def Obligations.StatRisingEdge : Prop :=
  ∀ (line : Ppu → Bool),
    (∀ p : Ppu, line p =
      if p.lcdc.getLsbD 7 then
        ((p.statMask.getLsbD 3 && decide (p.ly = p.lyc.toNat)) || (p.statMask.getLsbD 2 && decide (p.mode.number = 2)) ||
         (p.statMask.getLsbD 1 && decide (p.mode.number = 1)) || (p.statMask.getLsbD 0 && decide (p.mode.number = 0)))
      else false) →
    ∀ (s t : State),
      ((t = s.tick ∧ s.ppu.lcdc.getLsbD 7 = true) ∨ (∃ v : Byte, t = s.write 0xFF40 v ∨ t = s.write 0xFF41 v ∨ t = s.write 0xFF45 v)) →
      t.ppu.statLine = line t.ppu ∧
      t.ints.flags.getLsbD 1 = (s.ints.flags.getLsbD 1 || (!s.ppu.statLine && line t.ppu))

/-- Switching the LCD off and on, and the LCD while it is off. -/
def Obligations.LcdSwitch : Prop :=
  ∀ (s t : State) (v : Byte), t = s.write 0xFF40 v →
    t.ppu.lcdc = v ∧ t.read 0xFF40 = v ∧
    (v.getLsbD 7 = s.ppu.lcdc.getLsbD 7 →
      t.ppu = { s.ppu with lcdc := v, statLine := t.ppu.statLine }) ∧
    (v.getLsbD 7 ≠ s.ppu.lcdc.getLsbD 7 →
      t.ppu = { s.ppu with lcdc := v, statLine := t.ppu.statLine, ly := 0, dot := 0, windowLine := 0,
                           mode := if v.getLsbD 7 then .oamScan else .hblank } ∧
      t.ints.flags.getLsbD 0 = s.ints.flags.getLsbD 0) ∧
    (v.getLsbD 7 = false → ∀ n : Nat,
      (t.advance n).ppu = t.ppu ∧ t.ppu.statLine = false ∧ t.ppu.vramOpen = true ∧ t.ppu.oamOpen = true ∧
      (t.advance n).ints.flags.getLsbD 0 = t.ints.flags.getLsbD 0 ∧ (t.advance n).ints.flags.getLsbD 1 = t.ints.flags.getLsbD 1)

/-- One line of the picture: the background and the window by their maps and tiles, in numbers; the bytes of an OAM entry; the sprites of a line, the first ten of OAM that cover
it; the winner at a pixel, the opaque sprite with the smallest X, the first in OAM order among equals; and the pixel's shade. -/
def Obligations.LineRendering : Prop :=
  ∀ (p : Ppu) (tileAddr : Byte → Nat) (dot : Nat → Nat → Nat) (mapColour : Bool → Nat → Nat → Nat),
    (∀ n : Byte, tileAddr n =
      if p.lcdc.getLsbD 4 then 0x8000 + 16 * n.toNat else if n.toNat < 128 then 0x9000 + 16 * n.toNat else 0x8000 + 16 * n.toNat) →
    (∀ a c : Nat, dot a c =
      2 * ((p.vram.read (a + 1 - 0x8000)).getLsbD (7 - c)).toNat + ((p.vram.read (a - 0x8000)).getLsbD (7 - c)).toNat) →
    (∀ (second : Bool) (col row : Nat), mapColour second col row =
      dot (tileAddr (p.vram.read ((if second then 0x9C00 else 0x9800) + 32 * (row / 8) + col / 8 - 0x8000)) + 2 * (row % 8)) (col % 8)) →
    (∀ i < 40, (p.sprite i).y = (p.oam.read (4 * i)).toNat ∧ (p.sprite i).x = (p.oam.read (4 * i + 1)).toNat ∧
      (p.sprite i).tile = p.oam.read (4 * i + 2) ∧ (p.sprite i).attr = p.oam.read (4 * i + 3)) ∧
    (∀ (e : Sprite) (x y h r t : Nat), h = (if p.lcdc.getLsbD 2 then 16 else 8) → e.y ≤ y + 16 → y + 16 < e.y + h →
      r = (if e.attr.getLsbD 6 then h - 1 - (y + 16 - e.y) else y + 16 - e.y) →
      t = (if p.lcdc.getLsbD 2 then e.tile.toNat / 2 * 2 + r / 8 else e.tile.toNat) →
      (p.spriteColour e x y).map BitVec.toNat =
        if e.x ≤ x + 8 ∧ x < e.x then
          some (dot (0x8000 + 16 * t + 2 * (r % 8)) (if e.attr.getLsbD 5 then 7 - (x + 8 - e.x) else x + 8 - e.x))
        else none) ∧
    (∀ (x y : Nat) (sel : List Sprite),
      (p.winner x y sel = none ↔ ∀ e ∈ sel, p.spriteColour e x y = none ∨ p.spriteColour e x y = some 0) ∧
      ∀ (e : Sprite) (c : BitVec 2), p.winner x y sel = some (e, c) →
        c ≠ 0 ∧ p.spriteColour e x y = some c ∧
        ∃ before after : List Sprite, sel = before ++ e :: after ∧
          (∀ e' ∈ before, p.spriteColour e' x y = none ∨ p.spriteColour e' x y = some 0 ∨ e.x < e'.x) ∧
          (∀ e' ∈ after, p.spriteColour e' x y = none ∨ p.spriteColour e' x y = some 0 ∨ e.x ≤ e'.x)) ∧
    ∀ (y : Nat) (hy : y < 144) (win : Bool) (sel covers : List Sprite),
      win = (p.lcdc.getLsbD 5 && p.lcdc.getLsbD 0 && decide (p.wy.toNat ≤ y) && decide (p.wx.toNat ≤ 166)) →
      covers = ((List.range 40).map p.sprite).filter
        (fun e => decide (e.y ≤ y + 16 ∧ y + 16 < e.y + (if p.lcdc.getLsbD 2 then 16 else 8))) →
      sel = (if p.lcdc.getLsbD 1 then covers.take 10 else []) →
      p.renderLine y = { p with work := (p.renderLine y).work, windowLine := p.windowLine + win.toNat } ∧
      (∀ (y' : Nat) (hy' : y' < 144), y' ≠ y → (p.renderLine y).work[y'] = p.work[y']) ∧
      ∀ (x : Nat) (hx : x < 160) (c back : Nat),
        c = (if p.lcdc.getLsbD 0 = false then 0
          else if win = true ∧ p.wx.toNat ≤ x + 7 then mapColour (p.lcdc.getLsbD 6) (x + 7 - p.wx.toNat) p.windowLine
          else mapColour (p.lcdc.getLsbD 3) ((x + p.scx.toNat) % 256) ((y + p.scy.toNat) % 256)) →
        back = (if p.lcdc.getLsbD 0 = false then 0 else p.bgp.toNat / 4 ^ c % 4) →
        ((p.renderLine y).work[y][x]).toNat =
          match p.winner x y sel with
          | none => back
          | some (e, sc) =>
            if e.attr.getLsbD 7 = true ∧ c ≠ 0 then back else (if e.attr.getLsbD 4 then p.obp1 else p.obp0).toNat / 4 ^ sc.toNat % 4

/-- The APU's time: the frame sequencer's schedule, the length, envelope and sweep clocks, the ticks of the channels, one T-cycle of the whole, whose
sample is `mix()` of the APU after its channels' ticks; then how many pairs any number of T-cycles adds, after the pairs already there, and the host's
call, which takes them all, once. That a length clock switches a channel off only when it has just counted down is log entry 8; that an envelope runs by
the direction and period of the last trigger is log entry 19. -/
def Obligations.SampleQueue : Prop :=
  (∀ (u : Apu) (k : BitVec 3), u.fsClock k =
    if k.toNat = 7 then u.envClock
    else if k.toNat = 2 ∨ k.toNat = 6 then u.lengthClock.sweepClock
    else if k.toNat % 2 = 0 then u.lengthClock
    else u) ∧
  (∀ (len : Bool → Nat → Nat) (on : Bool → Nat → Bool → Bool),
    (∀ en n, len en n = if en = true ∧ 0 < n then n - 1 else n) →
    (∀ en n b, on en n b = if en = true ∧ 0 < n ∧ len en n = 0 then false else b) →
    ∀ u : Apu, u.lengthClock =
      { u with
        ch1 := { u.ch1 with len := len u.ch1.lenEn u.ch1.len, on := on u.ch1.lenEn u.ch1.len u.ch1.on }
        ch2 := { u.ch2 with len := len u.ch2.lenEn u.ch2.len, on := on u.ch2.lenEn u.ch2.len u.ch2.on }
        ch3 := { u.ch3 with len := len u.ch3.lenEn u.ch3.len, on := on u.ch3.lenEn u.ch3.len u.ch3.on }
        ch4 := { u.ch4 with len := len u.ch4.lenEn u.ch4.len, on := on u.ch4.lenEn u.ch4.len u.ch4.on } }) ∧
  (∀ env : Envelope → Envelope,
    (∀ e, env e =
      if e.runPeriod.toNat = 0 then e
      else if 1 < e.timer then { e with timer := e.timer - 1 }
      else { e with
        timer := e.runPeriod.toNat
        vol := BitVec.ofNat 4 (if e.runDir = true then min 15 (e.vol.toNat + 1) else e.vol.toNat - 1) }) →
    ∀ u : Apu, u.envClock =
      { u with ch1 := { u.ch1 with env := env u.ch1.env }, ch2 := { u.ch2 with env := env u.ch2.env },
               ch4 := { u.ch4 with env := env u.ch4.env } }) ∧
  (∀ next : Sweep → Nat,
    (∀ w, next w =
      if w.negate then w.shadow.toNat - w.shadow.toNat / 2 ^ w.shift.toNat else w.shadow.toNat + w.shadow.toNat / 2 ^ w.shift.toNat) →
    ∀ (u : Apu) (w w' : Sweep),
      w = { u.sweep with timer := if u.sweep.period.toNat = 0 then 8 else u.sweep.period.toNat } →
      w' = { w with shadow := BitVec.ofNat 11 (next w) } →
      u.sweepClock =
        if 1 < u.sweep.timer then { u with sweep := { u.sweep with timer := u.sweep.timer - 1 } }
        else if u.sweep.enabled = false ∨ u.sweep.period.toNat = 0 then { u with sweep := w }
        else if 2047 < next w then { u with sweep := w, ch1 := { u.ch1 with on := false } }
        else if w.shift.toNat = 0 then { u with sweep := w }
        else { u with
          sweep := w'
          ch1 := { u.ch1 with freq := BitVec.ofNat 11 (next w), on := u.ch1.on && decide (next w' ≤ 2047) } }) ∧
  (∀ c : Pulse, c.tick =
    if 1 < c.timer then { c with timer := c.timer - 1 }
    else { c with timer := (2048 - c.freq.toNat) * 4, pos := BitVec.ofNat 3 (c.pos.toNat + 1) }) ∧
  (∀ c : Wave, c.tick =
    if 1 < c.timer then { c with timer := c.timer - 1 }
    else { c with timer := (2048 - c.freq.toNat) * 2, pos := BitVec.ofNat 5 (c.pos.toNat + 1) }) ∧
  (∀ (c : Noise) (x : Bool) (r : BitVec 15), x = (c.lfsr.getLsbD 0 ^^ c.lfsr.getLsbD 1) →
    (∀ k < 15, r.getLsbD k = if k = 14 ∨ (k = 6 ∧ c.width = true) then x else c.lfsr.getLsbD (k + 1)) →
    c.tick =
      if 1 < c.timer then { c with timer := c.timer - 1 }
      else { c with timer := (if c.div.toNat = 0 then 8 else 16 * c.div.toNat) * 2 ^ c.shift.toNat, lfsr := r }) ∧
  (∀ (u f m : Apu) (period : Nat),
    f = (if u.fsCounter + 1 = 8192 then { u.fsClock u.fsStep with fsCounter := 0, fsStep := BitVec.ofNat 3 (u.fsStep.toNat + 1) }
      else { u with fsCounter := u.fsCounter + 1 }) →
    m = (if u.on then { f with ch1 := f.ch1.tick, ch2 := f.ch2.tick, ch3 := f.ch3.tick, ch4 := f.ch4.tick } else u) →
    u.tick period =
      if u.sampleCounter + 1 = period then { m with sampleCounter := 0, queue := u.queue ++ [m.mix] }
      else { m with sampleCounter := u.sampleCounter + 1 }) ∧
  ∀ (s : State) (n : Nat), 0 < s.cfg.samplePeriod → s.apu.sampleCounter < s.cfg.samplePeriod →
    (∃ new : List Sample, (s.advance n).apu.queue = s.apu.queue ++ new ∧
      new.length = (s.apu.sampleCounter + n) / s.cfg.samplePeriod) ∧
    (s.advance n).apu.sampleCounter = (s.apu.sampleCounter + n) % s.cfg.samplePeriod ∧
    s.drainSamples = (s.apu.queue, { s with apu := { s.apu with queue := [] } }) ∧
    s.drainSamples.2.drainSamples.1 = []

/-- The mixer: the channels NR51 sends to a side, summed and scaled by that side's volume; each sample lies in 0..30720. The duty patterns are written
out. -/
def Obligations.Mixer : Prop :=
  (∀ (d : BitVec 2) (pos : BitVec 3), (dutyBit d pos).toNat =
    (([[0, 0, 0, 0, 0, 0, 0, 1], [1, 0, 0, 0, 0, 0, 0, 1], [1, 0, 0, 0, 0, 1, 1, 1], [0, 1, 1, 1, 1, 1, 1, 0]] : List (List Nat)).getD
      d.toNat []).getD pos.toNat 0) ∧
  ∀ (u : Apu) (l r : Nat) (out : Nat → Nat),
    out 0 = (if u.on && u.ch1.on && u.ch1.env.dacOn then u.ch1.env.vol.toNat * (dutyBit u.ch1.duty u.ch1.pos).toNat else 0) →
    out 1 = (if u.on && u.ch2.on && u.ch2.env.dacOn then u.ch2.env.vol.toNat * (dutyBit u.ch2.duty u.ch2.pos).toNat else 0) →
    out 2 = (if u.on && u.ch3.on && u.ch3.dac then
        (if u.ch3.pos.toNat % 2 = 0 then (u.ch3.wave.read (u.ch3.pos.toNat / 2)).toNat / 16
         else (u.ch3.wave.read (u.ch3.pos.toNat / 2)).toNat % 16) /
          (match u.ch3.level.toNat with | 0 => 16 | 1 => 1 | 2 => 2 | _ => 4)
      else 0) →
    out 3 = (if u.on && u.ch4.on && u.ch4.env.dacOn then u.ch4.env.vol.toNat * (1 - (u.ch4.lfsr.getLsbD 0).toNat) else 0) →
    l = out 0 * (u.nr51.getLsbD 4).toNat + out 1 * (u.nr51.getLsbD 5).toNat + out 2 * (u.nr51.getLsbD 6).toNat +
      out 3 * (u.nr51.getLsbD 7).toNat →
    r = out 0 * (u.nr51.getLsbD 0).toNat + out 1 * (u.nr51.getLsbD 1).toNat + out 2 * (u.nr51.getLsbD 2).toNat +
      out 3 * (u.nr51.getLsbD 3).toNat →
    u.mix.1.toNat = 64 * (u.nr50.toNat / 16 % 8 + 1) * l ∧ u.mix.2.toNat = 64 * (u.nr50.toNat % 8 + 1) * r ∧
    u.mix.1.toNat ≤ 30720 ∧ u.mix.2.toNat ≤ 30720

/-- The registers of the APU while it is on: what a write of NR10 to NR51 stores, in numbers, with a DAC that goes off stopping its channel (R466) and
an envelope's new values waiting for the next trigger (R424, log entry 19); a trigger of each channel by a write of NRx4 with bit 7; and what each
register reads. -/
def Obligations.ChannelTriggers : Prop :=
  (∀ (s : State) (v : Byte), s.apu.on = true → v.getLsbD 7 = true →
    (∀ (c : Pulse) (f : BitVec 11) (w : Sweep), c = s.apu.ch1 → f = v.extractLsb' 0 3 ++ c.freq.extractLsb' 0 8 →
      w = { s.apu.sweep with
            shadow := f
            timer := if s.apu.sweep.period = 0 then 8 else s.apu.sweep.period.toNat
            enabled := decide (s.apu.sweep.period ≠ 0 ∨ s.apu.sweep.shift ≠ 0) } →
      s.write 0xFF14 v = { s with apu := { s.apu with
        sweep := w
        ch1 := { c with
          on := (decide (c.env.init ≠ 0) || c.env.dir) &&
            (decide (w.shift = 0) || w.negate || decide (f.toNat + f.toNat / 2 ^ w.shift.toNat ≤ 2047))
          lenEn := v.getLsbD 6
          freq := f
          len := if c.len = 0 then 64 else c.len
          timer := (2048 - f.toNat) * 4
          env := { c.env with runDir := c.env.dir, runPeriod := c.env.period, vol := c.env.init,
                              timer := if c.env.period = 0 then 8 else c.env.period.toNat } } } }) ∧
    (∀ (c : Pulse) (f : BitVec 11), c = s.apu.ch2 → f = v.extractLsb' 0 3 ++ c.freq.extractLsb' 0 8 →
      s.write 0xFF19 v = { s with apu := { s.apu with ch2 :=
        { c with
          on := decide (c.env.init ≠ 0) || c.env.dir
          lenEn := v.getLsbD 6
          freq := f
          len := if c.len = 0 then 64 else c.len
          timer := (2048 - f.toNat) * 4
          env := { c.env with runDir := c.env.dir, runPeriod := c.env.period, vol := c.env.init,
                              timer := if c.env.period = 0 then 8 else c.env.period.toNat } } } }) ∧
    (∀ (c : Wave) (f : BitVec 11), c = s.apu.ch3 → f = v.extractLsb' 0 3 ++ c.freq.extractLsb' 0 8 →
      s.write 0xFF1E v = { s with apu := { s.apu with ch3 :=
        { c with on := c.dac, lenEn := v.getLsbD 6, freq := f, len := if c.len = 0 then 256 else c.len,
                 timer := (2048 - f.toNat) * 2, pos := 0 } } }) ∧
    (∀ c : Noise, c = s.apu.ch4 →
      s.write 0xFF23 v = { s with apu := { s.apu with ch4 :=
        { c with
          on := decide (c.env.init ≠ 0) || c.env.dir
          lenEn := v.getLsbD 6
          len := if c.len = 0 then 64 else c.len
          timer := (if c.div = 0 then 8 else 16 * c.div.toNat) * 2 ^ c.shift.toNat
          lfsr := 0x7FFF
          env := { c.env with runDir := c.env.dir, runPeriod := c.env.period, vol := c.env.init,
                              timer := if c.env.period = 0 then 8 else c.env.period.toNat } } } })) ∧
  (∀ (s : State) (v : Byte) (n : Nat) (put : Apu → State), s.apu.on = true → n = v.toNat → (∀ u, put u = { s with apu := u }) →
    s.write 0xFF10 v = put { s.apu with sweep :=
      { s.apu.sweep with period := BitVec.ofNat 3 (n / 16), negate := decide (n / 8 % 2 = 1), shift := BitVec.ofNat 3 n } } ∧
    (∀ (e : Envelope → Envelope),
      (∀ x, e x = { x with init := BitVec.ofNat 4 (n / 16), dir := decide (n / 8 % 2 = 1), period := BitVec.ofNat 3 n }) →
      s.write 0xFF12 v = put { s.apu with ch1 := { s.apu.ch1 with env := e s.apu.ch1.env, on := s.apu.ch1.on && decide (8 ≤ n) } } ∧
      s.write 0xFF17 v = put { s.apu with ch2 := { s.apu.ch2 with env := e s.apu.ch2.env, on := s.apu.ch2.on && decide (8 ≤ n) } } ∧
      s.write 0xFF21 v = put { s.apu with ch4 := { s.apu.ch4 with env := e s.apu.ch4.env, on := s.apu.ch4.on && decide (8 ≤ n) } }) ∧
    s.write 0xFF11 v = put { s.apu with ch1 := { s.apu.ch1 with duty := BitVec.ofNat 2 (n / 64), len := 64 - n % 64 } } ∧
    s.write 0xFF16 v = put { s.apu with ch2 := { s.apu.ch2 with duty := BitVec.ofNat 2 (n / 64), len := 64 - n % 64 } } ∧
    s.write 0xFF1B v = put { s.apu with ch3 := { s.apu.ch3 with len := 256 - n } } ∧
    s.write 0xFF20 v = put { s.apu with ch4 := { s.apu.ch4 with len := 64 - n % 64 } } ∧
    (∀ low high : BitVec 11 → BitVec 11,
      (∀ f, low f = BitVec.ofNat 11 (f.toNat / 256 * 256 + n)) → (∀ f, high f = BitVec.ofNat 11 (n % 8 * 256 + f.toNat % 256)) →
      s.write 0xFF13 v = put { s.apu with ch1 := { s.apu.ch1 with freq := low s.apu.ch1.freq } } ∧
      s.write 0xFF18 v = put { s.apu with ch2 := { s.apu.ch2 with freq := low s.apu.ch2.freq } } ∧
      s.write 0xFF1D v = put { s.apu with ch3 := { s.apu.ch3 with freq := low s.apu.ch3.freq } } ∧
      (n < 128 →
        s.write 0xFF14 v = put { s.apu with ch1 := { s.apu.ch1 with freq := high s.apu.ch1.freq, lenEn := decide (64 ≤ n) } } ∧
        s.write 0xFF19 v = put { s.apu with ch2 := { s.apu.ch2 with freq := high s.apu.ch2.freq, lenEn := decide (64 ≤ n) } } ∧
        s.write 0xFF1E v = put { s.apu with ch3 := { s.apu.ch3 with freq := high s.apu.ch3.freq, lenEn := decide (64 ≤ n) } } ∧
        s.write 0xFF23 v = put { s.apu with ch4 := { s.apu.ch4 with lenEn := decide (64 ≤ n) } })) ∧
    s.write 0xFF1A v = put { s.apu with ch3 := { s.apu.ch3 with dac := decide (128 ≤ n), on := s.apu.ch3.on && decide (128 ≤ n) } } ∧
    s.write 0xFF1C v = put { s.apu with ch3 := { s.apu.ch3 with level := BitVec.ofNat 2 (n / 32) } } ∧
    s.write 0xFF22 v = put { s.apu with ch4 :=
      { s.apu.ch4 with shift := BitVec.ofNat 4 (n / 16), width := decide (n / 8 % 2 = 1), div := BitVec.ofNat 3 n } } ∧
    s.write 0xFF24 v = put { s.apu with nr50 := v } ∧
    s.write 0xFF25 v = put { s.apu with nr51 := v }) ∧
  ∀ (s : State) (u : Apu) (e : Envelope → Nat), s.apu.on = true → u = s.apu →
    (∀ x, e x = 16 * x.init.toNat + 8 * x.dir.toNat + x.period.toNat) →
    ((List.range 23).map fun k => (s.read (0xFF10 + BitVec.ofNat 16 k)).toNat) =
      [0x80 + 16 * u.sweep.period.toNat + 8 * u.sweep.negate.toNat + u.sweep.shift.toNat,
       64 * u.ch1.duty.toNat + 0x3F, e u.ch1.env, 0xFF, 0xBF + 64 * u.ch1.lenEn.toNat, s.cfg.openBus.toNat,
       64 * u.ch2.duty.toNat + 0x3F, e u.ch2.env, 0xFF, 0xBF + 64 * u.ch2.lenEn.toNat,
       0x7F + 128 * u.ch3.dac.toNat, 0xFF, 0x9F + 32 * u.ch3.level.toNat, 0xFF, 0xBF + 64 * u.ch3.lenEn.toNat, s.cfg.openBus.toNat,
       0xFF, e u.ch4.env, 16 * u.ch4.shift.toNat + 8 * u.ch4.width.toNat + u.ch4.div.toNat, 0xBF + 64 * u.ch4.lenEn.toNat,
       u.nr50.toNat, u.nr51.toNat,
       0xF0 + 8 * u.ch4.on.toNat + 4 * u.ch3.on.toNat + 2 * u.ch2.on.toNat + u.ch1.on.toNat]

/-- The APU's power. Switching off: the APU afterwards as a record, every stored field of NR10 to NR51, every channel, length and volume 0, wave RAM and all
else as before (that nothing else is changed is log entry 12, that an envelope's values in force are cleared with it log entry 19). While off, registers
read as their masks, writes but NR52's and wave RAM's are ignored, and time makes only silent samples. Switching on restarts the frame sequencer and the
positions, and the registers then read as cleared. A write of NR52 that keeps bit 7 changes nothing. -/
def Obligations.ApuPower : Prop :=
  (∀ (s : State) (v : Byte), v.getLsbD 7 = s.apu.on → s.write 0xFF26 v = s) ∧
  ∀ (s t : State) (v : Byte), s.apu.on = true → v.getLsbD 7 = false → t = s.write 0xFF26 v →
    (∀ (p : Pulse → Pulse) (e : Envelope → Envelope),
      (∀ x, e x = { x with init := 0, dir := false, period := 0, runDir := false, runPeriod := 0, vol := 0 }) →
      (∀ c, p c = { c with on := false, duty := 0, len := 0, lenEn := false, env := e c.env, freq := 0 }) →
      t = { s with apu := { s.apu with
        on := false
        nr50 := 0
        nr51 := 0
        sweep := { s.apu.sweep with period := 0, negate := false, shift := 0 }
        ch1 := p s.apu.ch1
        ch2 := p s.apu.ch2
        ch3 := { s.apu.ch3 with on := false, dac := false, len := 0, lenEn := false, level := 0, freq := 0 }
        ch4 := { s.apu.ch4 with on := false, len := 0, lenEn := false, env := e s.apu.ch4.env, shift := 0, width := false, div := 0 } } }) ∧
    t.apu.on = false ∧ t.read 0xFF26 = 0x70 ∧
    ((List.range 22).map fun k => t.read (0xFF10 + BitVec.ofNat 16 k)) =
      [0x80, 0x3F, 0x00, 0xFF, 0xBF, s.cfg.openBus, 0x3F, 0x00, 0xFF, 0xBF, 0x7F, 0xFF, 0x9F, 0xFF, 0xBF, s.cfg.openBus, 0xFF, 0x00,
       0x00, 0xBF, 0x00, 0x00] ∧
    (t.apu.ch1.on = false ∧ t.apu.ch2.on = false ∧ t.apu.ch3.on = false ∧ t.apu.ch4.on = false) ∧
    (t.apu.ch1.len = 0 ∧ t.apu.ch2.len = 0 ∧ t.apu.ch3.len = 0 ∧ t.apu.ch4.len = 0) ∧
    (t.apu.ch1.env.vol = 0 ∧ t.apu.ch2.env.vol = 0 ∧ t.apu.ch4.env.vol = 0) ∧
    t.apu.ch3.wave = s.apu.ch3.wave ∧
    (∀ (k : Nat) (x : Byte), k < 0x16 → (t.write (0xFF10 + BitVec.ofNat 16 k) x) = t) ∧
    (∀ (k : Nat) (x : Byte), k < 16 → (t.write (0xFF30 + BitVec.ofNat 16 k) x).apu.ch3.wave.read k = x) ∧
    (∀ n : Nat, (t.advance n).apu = { t.apu with queue := (t.advance n).apu.queue, sampleCounter := (t.advance n).apu.sampleCounter } ∧
      ∀ q ∈ (t.advance n).apu.queue, q ∈ t.apu.queue ∨ q = (0, 0)) ∧
    (∀ x : Byte, x.getLsbD 7 = true →
      (t.write 0xFF26 x).apu =
        { t.apu with on := true, fsCounter := 0, fsStep := 0, ch1 := { t.apu.ch1 with pos := 0 }, ch2 := { t.apu.ch2 with pos := 0 },
                     ch3 := { t.apu.ch3 with pos := 0 } } ∧
      ((List.range 23).map fun k => (t.write 0xFF26 x).read (0xFF10 + BitVec.ofNat 16 k)) =
        [0x80, 0x3F, 0x00, 0xFF, 0xBF, s.cfg.openBus, 0x3F, 0x00, 0xFF, 0xBF, 0x7F, 0xFF, 0x9F, 0xFF, 0xBF, s.cfg.openBus, 0xFF, 0x00,
         0x00, 0xBF, 0x00, 0x00, 0xF0])

/-! ### The host's calls -/

/-- The joypad: what P1 reads, and the edge check after the host's call and after a write of P1. -/
def Obligations.JoypadLines : Prop :=
  ∀ (lines : Joypad → BitVec 4),
    (∀ (j : Joypad) (k : Nat), k < 4 → (lines j).getLsbD k =
      !((!j.p1Sel.getLsbD 0 && j.buttons.getLsbD k) || (!j.p1Sel.getLsbD 1 && j.buttons.getLsbD (k + 4)))) →
    (∀ (cfg : Config) (cart : Cartridge), (State.powerOn cfg cart).joypad.p1Prev = 0b1111) ∧
    ∀ (s : State),
      s.read 0xFF00 = 0xC0 ||| (s.joypad.p1Sel.zeroExtend 8 <<< 4) ||| (lines s.joypad).zeroExtend 8 ∧
      ∀ (t : State) (j : Joypad) (v : Byte),
        (t = s.setJoypad v ∧ j = { s.joypad with buttons := v }) ∨
          (t = s.write 0xFF00 v ∧ j = { s.joypad with p1Sel := v.extractLsb' 4 2 }) →
        t.joypad = { j with p1Prev := lines j } ∧
        ∀ falls : Bool, (falls = true ↔ ∃ k < 4, s.joypad.p1Prev.getLsbD k = true ∧ (lines j).getLsbD k = false) →
          t = { s with
                joypad := t.joypad
                cpu := { s.cpu with stopped := s.cpu.stopped && !falls }
                ints := { s.ints with flags := if falls then s.ints.flags ||| 0b10000 else s.ints.flags } }

/-- `load_cartridge`: which images are rejected, and what an accepted one becomes; `save_ram` gives the RAM back. That the fallback controller has no
RAM is log entry 16. -/
def Obligations.LoadCartridge : Prop :=
  ∀ (cfg : Config) (rom : List Byte) (save : Option (List Byte)) (rc ram : Nat),
    rc = (rom.getD 0x148 0).toNat → ram = (rom.getD 0x149 0).toNat →
    ((∃ e, loadCartridge cfg rom save = .error e) ↔ rom.length < 0x150 ∨ 8 < rc ∨ 5 < ram ∨ rom.length < 32768 * 2 ^ rc) ∧
    ∀ t : State, loadCartridge cfg rom save = .ok t →
      t.cfg = cfg ∧ t.cart.romSize = 32768 * 2 ^ rc ∧
      (∀ k < t.cart.romSize, t.cart.rom.read k = rom.getD k 0) ∧ (∀ k, t.cart.romSize ≤ k → t.cart.rom.read k = 0) ∧
      ((rom.getD 0x147 0).toNat ∈ [2, 3] →
        t.cart.kind = .mbc1 ∧ t.cart.ramSize = (match ram with | 0 => 0 | 1 => 2048 | 2 => 8192 | 3 => 32768 | 4 => 131072 | _ => 65536)) ∧
      ((rom.getD 0x147 0).toNat = 1 → t.cart.kind = .mbc1 ∧ t.cart.ramSize = 0) ∧
      ((rom.getD 0x147 0).toNat ∉ [1, 2, 3] → t.cart.kind = .none ∧ t.cart.ramSize = 0) ∧
      (∀ blob : List Byte, save = some blob → blob.length = t.cart.ramSize → ∀ k < t.cart.ramSize, t.cart.ram.read k = blob.getD k 0) ∧
      ((∀ blob : List Byte, save = some blob → blob.length ≠ t.cart.ramSize) → ∀ k, t.cart.ram.read k = 0) ∧
      t.saveRam =
        (if (rom.getD 0x147 0).toNat = 3 ∧ t.cart.ramSize ≠ 0 then some ((List.range t.cart.ramSize).map t.cart.ram.read) else none) ∧
      t = State.powerOn cfg t.cart
end

