-- ==== Sys2Proof/Laws/State.lean ====
section
/-! SUPPORT. The fields of the state after each update of the CPU and each access of an I/O register: one lemma per field per update. -/

namespace Sys2Proof.Machine

@[simp] theorem State.setCpu_cpu (s : State) (c : Cpu) : (s.setCpu c).cpu = c := rfl
@[simp] theorem State.setCpu_cfg (s : State) (c : Cpu) : (s.setCpu c).cfg = s.cfg := rfl
@[simp] theorem State.setCpu_ints (s : State) (c : Cpu) : (s.setCpu c).ints = s.ints := rfl
@[simp] theorem State.setCpu_timer (s : State) (c : Cpu) : (s.setCpu c).timer = s.timer := rfl
@[simp] theorem State.setCpu_joypad (s : State) (c : Cpu) : (s.setCpu c).joypad = s.joypad := rfl
@[simp] theorem State.setCpu_serial (s : State) (c : Cpu) : (s.setCpu c).serial = s.serial := rfl
@[simp] theorem State.setCpu_ppu (s : State) (c : Cpu) : (s.setCpu c).ppu = s.ppu := rfl
@[simp] theorem State.setCpu_apu (s : State) (c : Cpu) : (s.setCpu c).apu = s.apu := rfl
@[simp] theorem State.setCpu_cart (s : State) (c : Cpu) : (s.setCpu c).cart = s.cart := rfl
@[simp] theorem State.setCpu_wram (s : State) (c : Cpu) : (s.setCpu c).wram = s.wram := rfl
@[simp] theorem State.setCpu_hram (s : State) (c : Cpu) : (s.setCpu c).hram = s.hram := rfl
@[simp] theorem State.setCpu_cycles (s : State) (c : Cpu) : (s.setCpu c).cycles = s.cycles := rfl
@[simp] theorem State.setCpu_setCpu (s : State) (c d : Cpu) : (s.setCpu c).setCpu d = s.setCpu d := rfl
@[simp] theorem State.setCpu_self (s : State) : s.setCpu s.cpu = s := rfl

@[simp] theorem State.setPc_eq (s : State) (a : Word) : s.setPc a = s.setCpu { s.cpu with pc := a } := rfl
@[simp] theorem State.setSp_eq (s : State) (a : Word) : s.setSp a = s.setCpu { s.cpu with sp := a } := rfl
@[simp] theorem State.setF_eq (s : State) (f : Byte) : s.setF f = s.setCpu { s.cpu with f := f } := rfl
@[simp] theorem State.setAF_eq (s : State) (r : Flagged) : s.setAF r = s.setCpu { s.cpu with a := r.value, f := r.f } := rfl

theorem State.readIo_setCpu (s : State) (c : Cpu) (r : IoReg) : (s.setCpu c).readIo r = s.readIo r := by
  cases r <;> rfl

theorem State.readIo_cycles (s : State) (n : Nat) (r : IoReg) : State.readIo { s with cycles := n } r = s.readIo r := by
  cases r <;> rfl

/-- A bus read looks only at the devices, the memories and the parameters. -/
@[simp] theorem State.read_setCpu (s : State) (c : Cpu) (a : Word) : (s.setCpu c).read a = s.read a := by
  unfold State.read
  cases regionOf a with
  | io => exact s.readIo_setCpu c _
  | _ => rfl

/-- A bus read does not look at the cycles consumed. -/
theorem State.read_cycles (s : State) (n : Nat) (a : Word) : State.read { s with cycles := n } a = s.read a := by
  unfold State.read
  cases regionOf a with
  | io => exact s.readIo_cycles n _
  | _ => rfl

/-! The registers after `Cpu.set`, `Cpu.setPair` and `Cpu.setStackPair`. -/

@[simp] theorem Cpu.get_set_same (c : Cpu) (r : Reg8) (v : Byte) : (c.set r v).get r = v := by cases r <;> rfl

theorem Cpu.get_set_other (c : Cpu) {r r' : Reg8} (v : Byte) (h : r' ≠ r) : (c.set r v).get r' = c.get r' := by
  cases r <;> cases r' <;> first | rfl | exact absurd rfl h

@[simp] theorem Cpu.set_f (c : Cpu) (r : Reg8) (v : Byte) : (c.set r v).f = c.f := by cases r <;> rfl
@[simp] theorem Cpu.set_sp (c : Cpu) (r : Reg8) (v : Byte) : (c.set r v).sp = c.sp := by cases r <;> rfl
@[simp] theorem Cpu.set_pc (c : Cpu) (r : Reg8) (v : Byte) : (c.set r v).pc = c.pc := by cases r <;> rfl
@[simp] theorem Cpu.set_ime (c : Cpu) (r : Reg8) (v : Byte) : (c.set r v).ime = c.ime := by cases r <;> rfl
@[simp] theorem Cpu.set_eiPending (c : Cpu) (r : Reg8) (v : Byte) : (c.set r v).eiPending = c.eiPending := by cases r <;> rfl
@[simp] theorem Cpu.set_halted (c : Cpu) (r : Reg8) (v : Byte) : (c.set r v).halted = c.halted := by cases r <;> rfl
@[simp] theorem Cpu.set_haltBug (c : Cpu) (r : Reg8) (v : Byte) : (c.set r v).haltBug = c.haltBug := by cases r <;> rfl
@[simp] theorem Cpu.set_stopped (c : Cpu) (r : Reg8) (v : Byte) : (c.set r v).stopped = c.stopped := by cases r <;> rfl

theorem toNat_wordOf (hi lo : Byte) : (wordOf hi lo).toNat = hi.toNat * 256 + lo.toNat := by
  have h : (wordOf hi lo).toNat = hi.toNat <<< 8 ||| lo.toNat := BitVec.toNat_append hi lo
  rw [h, ← Nat.shiftLeft_add_eq_or_of_lt lo.isLt, Nat.shiftLeft_eq]

theorem toNat_hiByte (w : Word) : (hiByte w).toNat = w.toNat / 256 := by
  have h : (hiByte w).toNat = w.toNat >>> 8 % 2 ^ 8 := BitVec.extractLsb'_toNat ..
  have := w.isLt
  rw [h, Nat.shiftRight_eq_div_pow]
  omega

theorem toNat_loByte (w : Word) : (loByte w).toNat = w.toNat % 256 := by
  have h : (loByte w).toNat = w.toNat >>> 0 % 2 ^ 8 := BitVec.extractLsb'_toNat ..
  rw [h, Nat.shiftRight_zero]
  rfl

@[simp] theorem hiByte_wordOf (hi lo : Byte) : hiByte (wordOf hi lo) = hi := by
  apply BitVec.eq_of_toNat_eq
  rw [toNat_hiByte, toNat_wordOf]
  have := lo.isLt
  omega

@[simp] theorem loByte_wordOf (hi lo : Byte) : loByte (wordOf hi lo) = lo := by
  apply BitVec.eq_of_toNat_eq
  rw [toNat_loByte, toNat_wordOf]
  have := lo.isLt
  omega

@[simp] theorem wordOf_hiByte_loByte (w : Word) : wordOf (hiByte w) (loByte w) = w := by
  apply BitVec.eq_of_toNat_eq
  rw [toNat_wordOf, toNat_hiByte, toNat_loByte]
  omega

@[simp] theorem Cpu.hl_setHL (c : Cpu) (v : Word) : (c.setHL v).hl = v := wordOf_hiByte_loByte v

@[simp] theorem Cpu.getPair_setPair_same (c : Cpu) (p : Pair) (v : Word) : (c.setPair p v).getPair p = v := by
  cases p <;> first | exact wordOf_hiByte_loByte v | rfl

@[simp] theorem Cpu.setPair_f (c : Cpu) (p : Pair) (v : Word) : (c.setPair p v).f = c.f := by cases p <;> rfl
@[simp] theorem Cpu.setPair_pc (c : Cpu) (p : Pair) (v : Word) : (c.setPair p v).pc = c.pc := by cases p <;> rfl
@[simp] theorem Cpu.setPair_ime (c : Cpu) (p : Pair) (v : Word) : (c.setPair p v).ime = c.ime := by cases p <;> rfl
@[simp] theorem Cpu.setPair_eiPending (c : Cpu) (p : Pair) (v : Word) : (c.setPair p v).eiPending = c.eiPending := by
  cases p <;> rfl
@[simp] theorem Cpu.setPair_halted (c : Cpu) (p : Pair) (v : Word) : (c.setPair p v).halted = c.halted := by cases p <;> rfl
@[simp] theorem Cpu.setPair_haltBug (c : Cpu) (p : Pair) (v : Word) : (c.setPair p v).haltBug = c.haltBug := by cases p <;> rfl
@[simp] theorem Cpu.setPair_stopped (c : Cpu) (p : Pair) (v : Word) : (c.setPair p v).stopped = c.stopped := by cases p <;> rfl

@[simp] theorem Cpu.setStackPair_sp (c : Cpu) (p : StackPair) (v : Word) : (c.setStackPair p v).sp = c.sp := by cases p <;> rfl
@[simp] theorem Cpu.setStackPair_pc (c : Cpu) (p : StackPair) (v : Word) : (c.setStackPair p v).pc = c.pc := by cases p <;> rfl
@[simp] theorem Cpu.setStackPair_ime (c : Cpu) (p : StackPair) (v : Word) : (c.setStackPair p v).ime = c.ime := by cases p <;> rfl
@[simp] theorem Cpu.setStackPair_eiPending (c : Cpu) (p : StackPair) (v : Word) :
    (c.setStackPair p v).eiPending = c.eiPending := by cases p <;> rfl
@[simp] theorem Cpu.setStackPair_halted (c : Cpu) (p : StackPair) (v : Word) : (c.setStackPair p v).halted = c.halted := by
  cases p <;> rfl
@[simp] theorem Cpu.setStackPair_haltBug (c : Cpu) (p : StackPair) (v : Word) :
    (c.setStackPair p v).haltBug = c.haltBug := by cases p <;> rfl
@[simp] theorem Cpu.setStackPair_stopped (c : Cpu) (p : StackPair) (v : Word) :
    (c.setStackPair p v).stopped = c.stopped := by cases p <;> rfl

/-! The flags. -/

@[simp] theorem zFlag_flagsByte (z n h c : Bool) : zFlag (flagsByte z n h c) = z := by revert z n h c; decide
@[simp] theorem nFlag_flagsByte (z n h c : Bool) : nFlag (flagsByte z n h c) = n := by revert z n h c; decide
@[simp] theorem hFlag_flagsByte (z n h c : Bool) : hFlag (flagsByte z n h c) = h := by revert z n h c; decide
@[simp] theorem cFlag_flagsByte (z n h c : Bool) : cFlag (flagsByte z n h c) = c := by revert z n h c; decide

/-- Flags written by an instruction leave the lower nibble of F at 0 (10_state R24). -/
@[simp] theorem maskF_flagsByte (z n h c : Bool) : maskF (flagsByte z n h c) = flagsByte z n h c := by revert z n h c; decide

@[simp] theorem maskF_maskF (v : Byte) : maskF (maskF v) = maskF v := by simp [maskF, BitVec.and_assoc]

end Sys2Proof.Machine
end

