-- ==== Sys2Proof/Laws/Advance.lean ====
section
/-! SUPPORT. What the passing of time leaves alone: the CPU, the memories outside the devices, the cartridge, the joypad, the serial registers, IE and
the parameters. -/

namespace Sys2Proof.Machine

@[simp] theorem State.tick_cpu (s : State) : s.tick.cpu = s.cpu := rfl
@[simp] theorem State.tick_cfg (s : State) : s.tick.cfg = s.cfg := rfl
@[simp] theorem State.tick_ie (s : State) : s.tick.ints.ie = s.ints.ie := rfl
@[simp] theorem State.tick_joypad (s : State) : s.tick.joypad = s.joypad := rfl
@[simp] theorem State.tick_serial (s : State) : s.tick.serial = s.serial := rfl
@[simp] theorem State.tick_cart (s : State) : s.tick.cart = s.cart := rfl
@[simp] theorem State.tick_wram (s : State) : s.tick.wram = s.wram := rfl
@[simp] theorem State.tick_hram (s : State) : s.tick.hram = s.hram := rfl
@[simp] theorem State.tick_cycles (s : State) : s.tick.cycles = s.cycles := rfl
@[simp] theorem State.tick_timer (s : State) : s.tick.timer = s.timer.tick := rfl
@[simp] theorem State.tick_ppu (s : State) : s.tick.ppu = s.ppu.tick s.cfg.mode3Len := rfl
@[simp] theorem State.tick_apu (s : State) : s.tick.apu = s.apu.tick s.cfg.samplePeriod := rfl

@[simp] theorem State.advance_zero (s : State) : s.advance 0 = s := rfl
theorem State.advance_succ (n : Nat) (s : State) : s.advance (n + 1) = s.tick.advance n := rfl

theorem State.advance_add (m n : Nat) (s : State) : s.advance (m + n) = (s.advance m).advance n := by
  induction m generalizing s with
  | zero => simp
  | succ m ih => rw [Nat.succ_add, State.advance_succ, State.advance_succ, ih]

theorem State.advance_succ' (n : Nat) (s : State) : s.advance (n + 1) = (s.advance n).tick := by
  rw [State.advance_add]; rfl

/-- A field that a tick leaves alone is left alone by `advance`. -/
theorem State.advance_field {α : Type} (g : State → α) (h : ∀ s, g s.tick = g s) (n : Nat) (s : State) :
    g (s.advance n) = g s := by
  induction n generalizing s with
  | zero => rfl
  | succ n ih => rw [State.advance_succ, ih, h]

@[simp] theorem State.advance_cpu (n : Nat) (s : State) : (s.advance n).cpu = s.cpu := advance_field State.cpu (fun _ => rfl) n s
@[simp] theorem State.advance_cfg (n : Nat) (s : State) : (s.advance n).cfg = s.cfg := advance_field State.cfg (fun _ => rfl) n s
@[simp] theorem State.advance_ie (n : Nat) (s : State) : (s.advance n).ints.ie = s.ints.ie :=
  advance_field (fun s => s.ints.ie) (fun _ => rfl) n s
@[simp] theorem State.advance_joypad (n : Nat) (s : State) : (s.advance n).joypad = s.joypad :=
  advance_field State.joypad (fun _ => rfl) n s
@[simp] theorem State.advance_serial (n : Nat) (s : State) : (s.advance n).serial = s.serial :=
  advance_field State.serial (fun _ => rfl) n s
@[simp] theorem State.advance_cart (n : Nat) (s : State) : (s.advance n).cart = s.cart := advance_field State.cart (fun _ => rfl) n s
@[simp] theorem State.advance_wram (n : Nat) (s : State) : (s.advance n).wram = s.wram := advance_field State.wram (fun _ => rfl) n s
@[simp] theorem State.advance_hram (n : Nat) (s : State) : (s.advance n).hram = s.hram := advance_field State.hram (fun _ => rfl) n s
@[simp] theorem State.advance_cycles (n : Nat) (s : State) : (s.advance n).cycles = s.cycles :=
  advance_field State.cycles (fun _ => rfl) n s

theorem State.advanceMcycle_field {α : Type} (g : State → α) (h : ∀ s, g s.tick = g s) (s : State) :
    g s.advanceMcycle = g s := by
  unfold State.advanceMcycle
  split
  · rfl
  · exact State.advance_field g h 4 s

theorem State.finish_field {α : Type} (g : State → α) (h : ∀ s, g s.tick = g s) (s : State) : g s.finish = g s := by
  unfold State.finish
  split <;> exact State.advance_field g h _ s

@[simp] theorem State.mcycle_cpu (s : State) : s.mcycle.cpu = s.cpu := advanceMcycle_field State.cpu (fun _ => rfl) s
@[simp] theorem State.mcycle_cfg (s : State) : s.mcycle.cfg = s.cfg := advanceMcycle_field State.cfg (fun _ => rfl) s
@[simp] theorem State.mcycle_ie (s : State) : s.mcycle.ints.ie = s.ints.ie :=
  advanceMcycle_field (fun s => s.ints.ie) (fun _ => rfl) s
@[simp] theorem State.mcycle_joypad (s : State) : s.mcycle.joypad = s.joypad := advanceMcycle_field State.joypad (fun _ => rfl) s
@[simp] theorem State.mcycle_serial (s : State) : s.mcycle.serial = s.serial := advanceMcycle_field State.serial (fun _ => rfl) s
@[simp] theorem State.mcycle_cart (s : State) : s.mcycle.cart = s.cart := advanceMcycle_field State.cart (fun _ => rfl) s
@[simp] theorem State.mcycle_wram (s : State) : s.mcycle.wram = s.wram := advanceMcycle_field State.wram (fun _ => rfl) s
@[simp] theorem State.mcycle_hram (s : State) : s.mcycle.hram = s.hram := advanceMcycle_field State.hram (fun _ => rfl) s
@[simp] theorem State.mcycle_cycles (s : State) : s.mcycle.cycles = s.cycles + 4 := rfl

@[simp] theorem State.finish_cpu (s : State) : s.finish.cpu = s.cpu := finish_field State.cpu (fun _ => rfl) s
@[simp] theorem State.finish_cfg (s : State) : s.finish.cfg = s.cfg := finish_field State.cfg (fun _ => rfl) s
@[simp] theorem State.finish_ie (s : State) : s.finish.ints.ie = s.ints.ie := finish_field (fun s => s.ints.ie) (fun _ => rfl) s
@[simp] theorem State.finish_joypad (s : State) : s.finish.joypad = s.joypad := finish_field State.joypad (fun _ => rfl) s
@[simp] theorem State.finish_serial (s : State) : s.finish.serial = s.serial := finish_field State.serial (fun _ => rfl) s
@[simp] theorem State.finish_cart (s : State) : s.finish.cart = s.cart := finish_field State.cart (fun _ => rfl) s
@[simp] theorem State.finish_wram (s : State) : s.finish.wram = s.wram := finish_field State.wram (fun _ => rfl) s
@[simp] theorem State.finish_hram (s : State) : s.finish.hram = s.hram := finish_field State.hram (fun _ => rfl) s
@[simp] theorem State.finish_cycles (s : State) : s.finish.cycles = s.cycles := finish_field State.cycles (fun _ => rfl) s

/-- With `ACCESS_TIMING = instruction` an M-cycle is only counted (60_exceptions R311). -/
theorem State.mcycle_instruction (s : State) (h : s.cfg.accessTiming = .instruction) :
    s.mcycle = { s with cycles := s.cycles + 4 } := by
  unfold State.mcycle State.advanceMcycle
  rw [h]

/-- With `ACCESS_TIMING = instruction` a bus read is the same in every M-cycle of a step that has written nothing (60_exceptions R311). -/
theorem State.read_mcycle_instruction (s : State) (h : s.cfg.accessTiming = .instruction) (a : Word) :
    s.mcycle.read a = s.read a := by
  rw [s.mcycle_instruction h, State.read_cycles]

/-- Time passes alike whatever the CPU registers hold. -/
theorem State.advance_setCpu (n : Nat) (s : State) (c : Cpu) : (s.setCpu c).advance n = (s.advance n).setCpu c := by
  induction n generalizing s with
  | zero => rfl
  | succ n ih => exact ih s.tick

theorem State.mcycle_setCpu (s : State) (c : Cpu) : (s.setCpu c).mcycle = s.mcycle.setCpu c := by
  unfold State.mcycle State.advanceMcycle
  cases h : s.cfg.accessTiming <;> simp only [State.setCpu_cfg, h]
  · rfl
  · rw [State.advance_setCpu]; rfl

theorem State.finish_setCpu (s : State) (c : Cpu) : (s.setCpu c).finish = s.finish.setCpu c := by
  unfold State.finish
  cases h : s.cfg.accessTiming <;> simp only [State.setCpu_cfg, State.setCpu_cycles, h, State.advance_setCpu]

end Sys2Proof.Machine
end

