-- ==== Sys2Proof/Laws/Memory.lean ====
section
/-! SUPPORT. The laws of the byte arrays: read after write, the canonical form, and that equal contents are equal lists. -/

namespace Sys2Proof.Machine

@[simp] theorem Memory.read_nil (a : Nat) : Memory.read [] a = 0 := rfl

theorem Memory.read_cons (k : Nat) (b : Byte) (m : Memory) (a : Nat) :
    Memory.read ((k, b) :: m) a = if k = a then b else m.read a := rfl

theorem Memory.read_erase_same (m : Memory) (a : Nat) : (m.erase a).read a = 0 := by
  induction m with
  | nil => rfl
  | cons c m ih =>
    obtain ⟨k, b⟩ := c
    unfold Memory.erase at ih ⊢
    by_cases h : k = a <;> simp_all [Memory.read_cons]

theorem Memory.read_erase_other (m : Memory) {a b : Nat} (h : b ≠ a) : (m.erase a).read b = m.read b := by
  induction m with
  | nil => rfl
  | cons c m ih =>
    obtain ⟨k, v⟩ := c
    unfold Memory.erase at ih ⊢
    by_cases hk : k = a
    · subst hk
      simp_all [Memory.read_cons, Ne.symm h]
    · simp_all [Memory.read_cons]

theorem Memory.read_insert_other (m : Memory) {a b : Nat} (v : Byte) (h : b ≠ a) : (m.insert a v).read b = m.read b := by
  induction m with
  | nil => simp [Memory.insert, Memory.read_cons, Ne.symm h]
  | cons c m ih =>
    obtain ⟨k, w⟩ := c
    unfold Memory.insert
    split <;> simp_all [Memory.read_cons, Ne.symm h]

theorem Memory.read_insert_same (m : Memory) (a : Nat) (v : Byte) (h : ∀ c ∈ m, c.1 ≠ a) : (m.insert a v).read a = v := by
  induction m with
  | nil => simp [Memory.insert, Memory.read_cons]
  | cons c m ih =>
    obtain ⟨k, w⟩ := c
    unfold Memory.insert
    split <;> simp_all [Memory.read_cons]

theorem Memory.not_mem_erase (m : Memory) (a : Nat) : ∀ c ∈ m.erase a, c.1 ≠ a := by
  intro c hc
  simpa [Memory.erase] using (List.mem_filter.mp hc).2

/-- A read after a write to the same place gives the value written. -/
@[simp] theorem Memory.read_write_same (m : Memory) (a : Nat) (v : Byte) : (m.write a v).read a = v := by
  unfold Memory.write
  split
  · rename_i h; rw [Memory.read_erase_same, h]
  · exact Memory.read_insert_same _ _ _ (m.not_mem_erase a)

/-- A write leaves every other place alone. -/
theorem Memory.read_write_other (m : Memory) {a b : Nat} (v : Byte) (h : b ≠ a) : (m.write a v).read b = m.read b := by
  unfold Memory.write
  split
  · exact m.read_erase_other h
  · rw [Memory.read_insert_other _ v h, m.read_erase_other h]

theorem Memory.wfFrom_cons (lo k : Nat) (b : Byte) (m : Memory) :
    Memory.wfFrom lo ((k, b) :: m) = true ↔ lo ≤ k ∧ b ≠ 0 ∧ m.wfFrom (k + 1) = true := by
  simp [Memory.wfFrom, and_assoc]

theorem Memory.wfFrom_mono {lo lo' : Nat} (m : Memory) (h : lo' ≤ lo) (hm : m.wfFrom lo = true) : m.wfFrom lo' = true := by
  cases m with
  | nil => rfl
  | cons c m =>
    obtain ⟨k, b⟩ := c
    rw [Memory.wfFrom_cons] at *
    exact ⟨by omega, hm.2⟩

theorem Memory.wfFrom_erase (m : Memory) (a lo : Nat) (hm : m.wfFrom lo = true) : (m.erase a).wfFrom lo = true := by
  induction m generalizing lo with
  | nil => rfl
  | cons c m ih =>
    obtain ⟨k, b⟩ := c
    rw [Memory.wfFrom_cons] at hm
    have ih' := ih _ hm.2.2
    unfold Memory.erase at ih' ⊢
    by_cases hk : k = a
    · have : List.filter (fun c : Host.Cell => decide (c.1 ≠ a)) ((k, b) :: m) =
          List.filter (fun c : Host.Cell => decide (c.1 ≠ a)) m := by simp [hk]
      rw [this]
      exact Memory.wfFrom_mono _ (by omega) ih'
    · have : List.filter (fun c : Host.Cell => decide (c.1 ≠ a)) ((k, b) :: m) =
          (k, b) :: List.filter (fun c : Host.Cell => decide (c.1 ≠ a)) m := by simp [hk]
      rw [this, Memory.wfFrom_cons]
      exact ⟨hm.1, hm.2.1, ih'⟩

theorem Memory.wfFrom_insert (m : Memory) (a lo : Nat) (v : Byte) (ha : ∀ c ∈ m, c.1 ≠ a) (hv : v ≠ 0) (hlo : lo ≤ a)
    (hm : m.wfFrom lo = true) : (m.insert a v).wfFrom lo = true := by
  induction m generalizing lo with
  | nil => simpa [Memory.insert, Memory.wfFrom, hlo] using hv
  | cons c m ih =>
    obtain ⟨k, b⟩ := c
    rw [Memory.wfFrom_cons] at hm
    have hk : k ≠ a := ha (k, b) (by simp)
    unfold Memory.insert
    split
    · rw [Memory.wfFrom_cons, Memory.wfFrom_cons]
      exact ⟨hlo, hv, by omega, hm.2.1, hm.2.2⟩
    · rw [Memory.wfFrom_cons]
      exact ⟨hm.1, hm.2.1, ih _ (fun c hc => ha c (by simp [hc])) (by omega) hm.2.2⟩

/-- A write keeps the canonical form. -/
theorem Memory.wf_write (m : Memory) (a : Nat) (v : Byte) (hm : m.wf = true) : (m.write a v).wf = true := by
  unfold Memory.write Memory.wf at *
  split
  · exact m.wfFrom_erase a 0 hm
  · rename_i hv
    exact Memory.wfFrom_insert _ _ _ _ (m.not_mem_erase a) hv (Nat.zero_le _) (m.wfFrom_erase a 0 hm)

theorem Memory.below_iff (m : Memory) (size : Nat) : m.below size = true ↔ ∀ c ∈ m, c.1 < size := by
  simp [Memory.below]

theorem Memory.mem_insert (m : Memory) (a : Nat) (v : Byte) (c : Host.Cell) (hc : c ∈ m.insert a v) : c = (a, v) ∨ c ∈ m := by
  induction m with
  | nil => simpa [Memory.insert] using hc
  | cons d m ih =>
    obtain ⟨k, b⟩ := d
    unfold Memory.insert at hc
    split at hc <;> simp_all
    grind

/-- A write inside the array keeps every listed offset inside it. -/
theorem Memory.below_write (m : Memory) (size a : Nat) (v : Byte) (ha : a < size) (hm : m.below size = true) :
    (m.write a v).below size = true := by
  rw [Memory.below_iff] at *
  intro c hc
  unfold Memory.write at hc
  split at hc
  · exact hm c (List.mem_filter.mp hc).1
  · rcases Memory.mem_insert _ _ _ _ hc with rfl | h
    · exact ha
    · exact hm c (List.mem_filter.mp h).1

theorem Memory.Ok.write {m : Memory} {size : Nat} (h : m.Ok size) (a : Nat) (v : Byte) (ha : a < size) : (m.write a v).Ok size :=
  ⟨m.wf_write a v h.wf, m.below_write size a v ha h.below⟩

theorem Memory.Ok.nil (size : Nat) : Memory.Ok [] size := ⟨rfl, rfl⟩

theorem Memory.wfFrom_ofBytes (bs : List Byte) (start : Nat) : (Memory.ofBytes bs start).wfFrom start = true := by
  induction bs generalizing start with
  | nil => rfl
  | cons b bs ih =>
    unfold Memory.ofBytes
    split
    · exact Memory.wfFrom_mono _ (by omega) (ih (start + 1))
    · rename_i hb
      rw [Memory.wfFrom_cons]
      exact ⟨Nat.le_refl _, hb, ih (start + 1)⟩

theorem Memory.mem_ofBytes (bs : List Byte) (start : Nat) (c : Host.Cell) (hc : c ∈ Memory.ofBytes bs start) :
    c.1 < start + bs.length := by
  induction bs generalizing start with
  | nil => simp [Memory.ofBytes] at hc
  | cons b bs ih =>
    unfold Memory.ofBytes at hc
    split at hc
    · have := ih (start + 1) hc
      simp only [List.length_cons]; omega
    · rcases List.mem_cons.mp hc with rfl | h
      · simp
      · have := ih (start + 1) h
        simp only [List.length_cons]; omega

/-- The array made from bytes is in canonical form inside an array of their number. -/
theorem Memory.Ok.ofBytes (bs : List Byte) (size : Nat) (h : bs.length ≤ size) : (Memory.ofBytes bs 0).Ok size := by
  refine ⟨Memory.wfFrom_ofBytes bs 0, ?_⟩
  rw [Memory.below_iff]
  intro c hc
  have := Memory.mem_ofBytes bs 0 c hc
  omega

theorem Memory.read_ofBytes_lt (bs : List Byte) (start a : Nat) (h : a < start) : (Memory.ofBytes bs start).read a = 0 := by
  induction bs generalizing start with
  | nil => rfl
  | cons b bs ih =>
    unfold Memory.ofBytes
    split
    · exact ih (start + 1) (by omega)
    · rw [Memory.read_cons, if_neg (by omega), ih (start + 1) (by omega)]

/-- The array made from bytes reads as those bytes. -/
theorem Memory.read_ofBytes (bs : List Byte) (start a : Nat) : (Memory.ofBytes bs start).read (start + a) = bs.getD a 0 := by
  induction bs generalizing start a with
  | nil => simp [Memory.ofBytes]
  | cons b bs ih =>
    unfold Memory.ofBytes
    cases a with
    | zero =>
      split
      · rename_i hb
        rw [Nat.add_zero, Memory.read_ofBytes_lt _ _ _ (by omega)]; simp [hb]
      · simp [Memory.read_cons]
    | succ a =>
      have h1 : start + (a + 1) = start + 1 + a := by omega
      split
      · rw [h1, ih]; simp
      · rw [Memory.read_cons, if_neg (by omega), h1, ih]; simp

theorem Memory.read_of_wfFrom_lt (m : Memory) (lo a : Nat) (hm : m.wfFrom lo = true) (ha : a < lo) : m.read a = 0 := by
  induction m generalizing lo with
  | nil => rfl
  | cons c m ih =>
    obtain ⟨k, b⟩ := c
    rw [Memory.wfFrom_cons] at hm
    rw [Memory.read_cons, if_neg (by omega)]
    exact ih (k + 1) hm.2.2 (by omega)

end Sys2Proof.Machine
end

