-- ==== Sys2Proof/Laws/Devices.lean ====
section
/-! SUPPORT. Every operation of the timer, the joypad, the PPU, the APU and the cartridge keeps its part of the invariant. -/

namespace Sys2Proof.Machine

/-! The timer. -/

@[simp] theorem Timer.increment_signal (t : Timer) : t.increment.signal = t.signal := rfl

@[simp] theorem Timer.edgeCheck_signal (t : Timer) : t.edgeCheck.signal = t.signal := by
  unfold Timer.edgeCheck
  split <;> rfl

@[simp] theorem Timer.edgeCheck_lastSig (t : Timer) : t.edgeCheck.lastSig = t.signal := by
  unfold Timer.edgeCheck
  split <;> rfl

theorem Timer.edgeCheck_reloadIn (t : Timer) :
    t.edgeCheck.reloadIn = t.reloadIn ∨ t.edgeCheck.reloadIn = some 4 := by
  unfold Timer.edgeCheck
  split
  · show (if t.tima = 0xFF then some 4 else t.reloadIn) = _ ∨ (if t.tima = 0xFF then some 4 else t.reloadIn) = _
    split
    · exact .inr rfl
    · exact .inl rfl
  · exact .inl rfl

/-- The edge check makes the invariant hold once the reload count is in range. -/
theorem Timer.Ok.edgeCheck {t : Timer} (h : ∀ n, t.reloadIn = some n → 1 ≤ n ∧ n ≤ 4) : t.edgeCheck.Ok := by
  refine ⟨fun n hn => ?_, by simp⟩
  rcases t.edgeCheck_reloadIn with h' | h'
  · exact h n (h' ▸ hn)
  · rw [h'] at hn
    cases hn
    omega

theorem Timer.countReload_reloadIn {t : Timer} (h : ∀ n, t.reloadIn = some n → 1 ≤ n ∧ n ≤ 4) :
    ∀ n, t.countReload.reloadIn = some n → 1 ≤ n ∧ n ≤ 4 := by
  intro n hn
  unfold Timer.countReload at hn
  split at hn
  · exact h n hn
  · rename_i m hm
    have := h m hm
    split at hn
    · cases hn
    · cases hn
      omega

theorem Timer.Ok.tick {t : Timer} (h : t.Ok) : t.tick.Ok := Timer.Ok.edgeCheck (Timer.countReload_reloadIn h.reload)

theorem Timer.Ok.writeDiv {t : Timer} (h : t.Ok) : t.writeDiv.Ok := Timer.Ok.edgeCheck h.reload

theorem Timer.Ok.writeTac {t : Timer} (h : t.Ok) (v : Byte) : (t.writeTac v).Ok := Timer.Ok.edgeCheck h.reload

theorem Timer.Ok.writeTima {t : Timer} (h : t.Ok) (v : Byte) : (t.writeTima v).Ok := ⟨fun _ hn => (nomatch hn), h.lastSig⟩

theorem Timer.Ok.writeTma {t : Timer} (h : t.Ok) (v : Byte) : (t.writeTma v).Ok := ⟨h.reload, h.lastSig⟩

/-! The joypad. -/

theorem Joypad.Ok.latch (j : Joypad) : j.latch.Ok := ⟨rfl⟩

/-! The PPU. -/

@[simp] theorem Ppu.statUpdate_statSignal (p : Ppu) : p.statUpdate.statSignal = p.statSignal := rfl

theorem Ppu.renderLine_fields (p : Ppu) (y : Nat) :
    (p.renderLine y).lcdc = p.lcdc ∧ (p.renderLine y).ly = p.ly ∧ (p.renderLine y).dot = p.dot ∧
      (p.renderLine y).vram = p.vram ∧ (p.renderLine y).oam = p.oam := ⟨rfl, rfl, rfl, rfl, rfl⟩

theorem Ppu.renderLine_windowLine (p : Ppu) (y : Nat) :
    (p.renderLine y).windowLine = p.windowLine ∨ (p.renderLine y).windowLine = p.windowLine + 1 := by
  unfold Ppu.renderLine
  by_cases h : p.windowActive y <;> simp [h]

/-- The parts of the PPU's invariant that do not speak of the STAT line. -/
structure Ppu.Timed (mode3Len : Nat) (p : Ppu) : Prop where
  ly : p.ly ≤ 153
  dot : p.dot ≤ 455
  mode : p.mode = scheduledMode mode3Len p.ly p.dot
  window : p.windowLine ≤ 144 ∧ p.windowLine ≤ p.ly + 1
  windowBefore : p.dot < 80 + mode3Len → p.windowLine ≤ p.ly

theorem Ppu.Timed.nextLine {len : Nat} {p : Ppu} (h : p.Timed len) : p.nextLine.Timed len := by
  obtain ⟨h1, h2, h3, h4, h5⟩ := h
  by_cases hw : p.ly + 1 = 154
  · have e : p.nextLine.ly = 0 := by simp [Ppu.nextLine, hw]
    have ew : p.nextLine.windowLine = 0 := by simp [Ppu.nextLine, hw]
    have em : p.nextLine.mode = .oamScan := by simp [Ppu.nextLine, hw]
    have ed : p.nextLine.dot = 0 := rfl
    refine ⟨by omega, by omega, ?_, by omega, by omega⟩
    rw [em, e, ed]; rfl
  · have e : p.nextLine.ly = p.ly + 1 := by simp [Ppu.nextLine, hw]
    have ew : p.nextLine.windowLine = p.windowLine := by simp [Ppu.nextLine, hw]
    have ed : p.nextLine.dot = 0 := rfl
    refine ⟨by omega, by omega, ?_, by omega, by omega⟩
    rw [e, ed]
    have em : p.nextLine.mode =
        if p.ly + 1 = 144 then .vblank else if p.ly + 1 < 144 then .oamScan else p.mode := by
      simp only [Ppu.nextLine, hw, if_false]
    rw [em]
    unfold scheduledMode at h3 ⊢
    by_cases h144 : 144 ≤ p.ly
    · rw [if_neg (by omega), if_neg (by omega), h3, if_pos h144, if_pos (by omega)]
    · by_cases h143 : p.ly = 143
      · simp [h143]
      · rw [if_neg (by omega), if_pos (by omega), if_neg (by omega), if_pos (by omega)]

theorem Ppu.Timed.nextDot {len : Nat} {p : Ppu} (h : p.Timed len) (hl : 1 ≤ len) (hd : p.dot + 1 ≠ 456) :
    (p.nextDot len).Timed len := by
  obtain ⟨h1, h2, h3, h4, h5⟩ := h
  unfold scheduledMode at h3
  unfold Ppu.nextDot
  by_cases hv : p.ly < 144
  · simp only [hv, if_true]
    by_cases h80 : p.dot + 1 = 80
    · simp only [h80, if_true]
      refine ⟨h1, by simp, ?_, h4, fun _ => h5 (by omega)⟩
      simp only [scheduledMode]
      rw [if_neg (by omega), if_neg (by omega), if_pos (by omega)]
    · simp only [h80, if_false]
      by_cases hr : p.dot + 1 = 80 + len
      · simp only [hr, if_true]
        have hb := h5 (by omega)
        have hw : ({ p with dot := 80 + len }.renderLine p.ly).windowLine ≤ p.windowLine + 1 := by
          rcases ({ p with dot := 80 + len } : Ppu).renderLine_windowLine p.ly with h | h <;> rw [h]
          exact Nat.le_succ _
        refine ⟨h1, by show 80 + len ≤ 455; omega, ?_, ?_, ?_⟩
        · simp only [scheduledMode, Ppu.renderLine]
          rw [if_neg (by omega), if_neg (by omega), if_neg (by omega)]
        · exact ⟨Nat.le_trans hw (by omega), Nat.le_trans hw (Nat.add_le_add_right hb 1)⟩
        · intro hlt
          have : 80 + len < 80 + len := hlt
          omega
      · simp only [hr, if_false]
        refine ⟨h1, by show p.dot + 1 ≤ 455; omega, ?_, h4, ?_⟩
        · show p.mode = scheduledMode len p.ly (p.dot + 1)
          rw [h3]
          unfold scheduledMode
          have e1 : p.dot < 80 ↔ p.dot + 1 < 80 := by omega
          have e2 : p.dot < 80 + len ↔ p.dot + 1 < 80 + len := by omega
          simp only [e1, e2]
        · intro hlt
          have : p.dot + 1 < 80 + len := hlt
          exact h5 (by omega)
  · simp only [hv, if_false]
    refine ⟨h1, by show p.dot + 1 ≤ 455; omega, ?_, h4, ?_⟩
    · show p.mode = scheduledMode len p.ly (p.dot + 1)
      rw [h3]
      unfold scheduledMode
      rw [if_pos (by omega), if_pos (by omega)]
    · intro _
      show p.windowLine ≤ p.ly
      omega

theorem Ppu.Timed.moveDot {len : Nat} {p : Ppu} (h : p.Timed len) (hl : 1 ≤ len) : (p.moveDot len).Timed len := by
  unfold Ppu.moveDot
  split
  · exact h.nextLine
  · rename_i hd
    exact h.nextDot hl hd

/-- Moving a dot leaves LCDC, VRAM and OAM alone. -/
theorem Ppu.moveDot_frame (len : Nat) (p : Ppu) :
    (p.moveDot len).lcdc = p.lcdc ∧ (p.moveDot len).vram = p.vram ∧ (p.moveDot len).oam = p.oam := by
  unfold Ppu.moveDot Ppu.nextDot Ppu.nextLine
  repeat' split
  all_goals exact ⟨rfl, rfl, rfl⟩

theorem Ppu.Ok.timed {len : Nat} {p : Ppu} (h : p.Ok len) (hon : p.lcdOn = true) : p.Timed len :=
  ⟨h.ly, h.dot, h.on hon, h.window, h.windowBefore⟩

theorem Ppu.Timed.ok {len : Nat} {p : Ppu} (h : p.Timed len) (hon : p.lcdOn = true) (hv : p.vram.Ok 0x2000) (ho : p.oam.Ok 160) :
    p.statUpdate.Ok len where
  ly := h.ly
  dot := h.dot
  on := fun _ => h.mode
  off := fun hoff => absurd (hon.symm.trans hoff) (by decide)
  statLine := rfl
  window := h.window
  windowBefore := h.windowBefore
  vram := hv
  oam := ho

theorem Ppu.Ok.tick {len : Nat} {p : Ppu} (h : p.Ok len) (hl : 1 ≤ len) : (p.tick len).Ok len := by
  unfold Ppu.tick
  split
  · rename_i hon
    obtain ⟨e1, e2, e3⟩ := p.moveDot_frame len
    refine Ppu.Timed.ok ((h.timed hon).moveDot hl) ?_ (e2 ▸ h.vram) (e3 ▸ h.oam)
    unfold Ppu.lcdOn at hon ⊢
    rw [e1, hon]
  · exact h

theorem Ppu.Ok.storeLcdc {len : Nat} {p : Ppu} (h : p.Ok len) (v : Byte) : (p.storeLcdc v).statUpdate.Ok len := by
  unfold Ppu.storeLcdc
  by_cases hv : v.getLsbD 7 = p.lcdOn
  · rw [if_pos hv]
    exact { ly := h.ly, dot := h.dot
            on := fun hon => h.on (hv ▸ hon)
            off := fun hoff => h.off (hv ▸ hoff)
            statLine := rfl, window := h.window, windowBefore := h.windowBefore, vram := h.vram, oam := h.oam }
  · rw [if_neg hv]
    refine { ly := Nat.zero_le _, dot := Nat.zero_le _, on := fun hon => ?_, off := fun hoff => ?_, statLine := rfl
             window := ⟨Nat.zero_le _, Nat.zero_le _⟩, windowBefore := fun _ => Nat.le_refl _, vram := h.vram, oam := h.oam }
    · have : v.getLsbD 7 = true := hon
      show (if v.getLsbD 7 then PpuMode.oamScan else PpuMode.hblank) = _
      rw [this]; rfl
    · have : v.getLsbD 7 = false := hoff
      refine ⟨rfl, rfl, ?_⟩
      show (if v.getLsbD 7 then PpuMode.oamScan else PpuMode.hblank) = _
      rw [this]; rfl

theorem Ppu.Ok.storeStat {len : Nat} {p : Ppu} (h : p.Ok len) (v : Byte) : (p.storeStat v).statUpdate.Ok len :=
  { ly := h.ly, dot := h.dot, on := h.on, off := h.off, statLine := rfl, window := h.window
    windowBefore := h.windowBefore, vram := h.vram, oam := h.oam }

theorem Ppu.Ok.storeLyc {len : Nat} {p : Ppu} (h : p.Ok len) (v : Byte) : (p.storeLyc v).statUpdate.Ok len :=
  { ly := h.ly, dot := h.dot, on := h.on, off := h.off, statLine := rfl, window := h.window
    windowBefore := h.windowBefore, vram := h.vram, oam := h.oam }

/-- A change of the registers that neither the timing nor the STAT line reads, or of the memories, keeps the invariant. -/
theorem Ppu.Ok.congr {len : Nat} {p q : Ppu} (h : p.Ok len) (h1 : q.lcdc = p.lcdc) (h2 : q.statMask = p.statMask)
    (h3 : q.ly = p.ly) (h4 : q.lyc = p.lyc) (h5 : q.mode = p.mode) (h6 : q.dot = p.dot) (h7 : q.statLine = p.statLine)
    (h8 : q.windowLine = p.windowLine) (hv : q.vram.Ok 0x2000) (ho : q.oam.Ok 160) : q.Ok len := by
  obtain ⟨a1, a2, a3, a4, a5, a6, a7, _, _⟩ := h
  have hs : q.statSignal = p.statSignal := by simp only [Ppu.statSignal, Ppu.lcdOn, Ppu.coincidence, h1, h2, h3, h4, h5]
  have hl : q.lcdOn = p.lcdOn := by simp only [Ppu.lcdOn, h1]
  exact ⟨h3 ▸ a1, h6 ▸ a2, by rw [hl, h5, h3, h6]; exact a3, by rw [hl, h5, h3, h6]; exact a4, by rw [h7, hs]; exact a5,
    by rw [h8, h3]; exact a6, by rw [h8, h3, h6]; exact a7, hv, ho⟩

theorem Ppu.Ok.writeVram {len : Nat} {p : Ppu} (h : p.Ok len) {k : Nat} (hk : k < 0x2000) (v : Byte) : (p.writeVram k v).Ok len := by
  refine h.congr rfl rfl rfl rfl rfl rfl rfl rfl ?_ h.oam
  show Memory.Ok (if p.vramOpen then p.vram.write k v else p.vram) _
  split
  · exact h.vram.write k v hk
  · exact h.vram

theorem Ppu.Ok.writeOam {len : Nat} {p : Ppu} (h : p.Ok len) {k : Nat} (hk : k < 160) (v : Byte) : (p.writeOam k v).Ok len := by
  refine h.congr rfl rfl rfl rfl rfl rfl rfl rfl h.vram ?_
  show Memory.Ok (if p.oamOpen then p.oam.write k v else p.oam) _
  split
  · exact h.oam.write k v hk
  · exact h.oam

/-! The APU. -/

theorem reload8_le (p : BitVec 3) : (if p = 0 then 8 else p.toNat) ≤ 8 := by
  have := p.isLt
  split <;> omega

theorem Sweep.reload_le (w : Sweep) : w.reload ≤ 8 := reload8_le w.period

theorem Envelope.Ok.clock {e : Envelope} (h : e.Ok) : e.clock.Ok := by
  obtain ⟨h⟩ := h
  unfold Envelope.clock
  have := e.runPeriod.isLt
  split
  · exact ⟨h⟩
  · split
    · exact ⟨by show e.runPeriod.toNat ≤ 8; omega⟩
    · exact ⟨by show e.timer - 1 ≤ 8; omega⟩

theorem Envelope.Ok.trigger (e : Envelope) : e.trigger.Ok := ⟨reload8_le e.period⟩

theorem Envelope.Ok.store {e : Envelope} (h : e.Ok) (v : Byte) : (e.store v).Ok := ⟨h.timer⟩

theorem Envelope.Ok.powerOff {e : Envelope} (h : e.Ok) : e.powerOff.Ok := ⟨h.timer⟩

theorem lenAfterClock_le (en : Bool) (len : Nat) : lenAfterClock en len ≤ len := by
  unfold lenAfterClock
  split <;> omega

theorem triggerLen_le {full len : Nat} (h : len ≤ full) : triggerLen full len ≤ full := by
  unfold triggerLen
  split <;> omega

theorem Pulse.periodT_pos (c : Pulse) : 1 ≤ c.periodT := by
  have := c.freq.isLt
  unfold Pulse.periodT
  omega

theorem Wave.periodT_pos (c : Wave) : 1 ≤ c.periodT := by
  have := c.freq.isLt
  unfold Wave.periodT
  omega

theorem Noise.periodT_pos (c : Noise) : 1 ≤ c.periodT := by
  unfold Noise.periodT
  rw [Nat.shiftLeft_eq]
  have h2 : 1 ≤ 2 ^ c.shift.toNat := Nat.one_le_two_pow
  have h1 : 1 ≤ (if c.div = 0 then 8 else 16 * c.div.toNat) := by
    split
    · omega
    · rename_i h
      have : c.div.toNat ≠ 0 := fun h' => h (BitVec.eq_of_toNat_eq (by simpa using h'))
      omega
  exact Nat.mul_le_mul h1 h2

theorem Pulse.Ok.tick {c : Pulse} (h : c.Ok) : c.tick.Ok := by
  unfold Pulse.tick
  split
  · exact ⟨h.len, c.periodT_pos, h.env⟩
  · exact ⟨h.len, by show 1 ≤ c.timer - 1; omega, h.env⟩

theorem Wave.Ok.tick {c : Wave} (h : c.Ok) : c.tick.Ok := by
  unfold Wave.tick
  split
  · exact ⟨h.len, c.periodT_pos, h.wave⟩
  · exact ⟨h.len, by show 1 ≤ c.timer - 1; omega, h.wave⟩

theorem Noise.Ok.tick {c : Noise} (h : c.Ok) : c.tick.Ok := by
  unfold Noise.tick
  split
  · exact ⟨h.len, c.periodT_pos, h.env⟩
  · exact ⟨h.len, by show 1 ≤ c.timer - 1; omega, h.env⟩

theorem Pulse.Ok.lenClock {c : Pulse} (h : c.Ok) : c.lenClock.Ok :=
  ⟨(lenAfterClock_le _ _).trans h.len, h.timer, h.env⟩

theorem Wave.Ok.lenClock {c : Wave} (h : c.Ok) : c.lenClock.Ok := ⟨(lenAfterClock_le _ _).trans h.len, h.timer, h.wave⟩

theorem Noise.Ok.lenClock {c : Noise} (h : c.Ok) : c.lenClock.Ok := ⟨(lenAfterClock_le _ _).trans h.len, h.timer, h.env⟩

theorem Pulse.Ok.trigger {c : Pulse} (h : c.Ok) : c.trigger.Ok := ⟨triggerLen_le h.len, c.periodT_pos, Envelope.Ok.trigger c.env⟩

theorem Wave.Ok.trigger {c : Wave} (h : c.Ok) : c.trigger.Ok := ⟨triggerLen_le h.len, c.periodT_pos, h.wave⟩

theorem Noise.Ok.trigger {c : Noise} (h : c.Ok) : c.trigger.Ok := ⟨triggerLen_le h.len, c.periodT_pos, Envelope.Ok.trigger c.env⟩

theorem sweepClock_timer {w : Sweep} (h : w.timer ≤ 8) (c : Pulse) : (sweepClock w c).1.timer ≤ 8 := by
  unfold sweepClock
  dsimp only
  repeat' split
  all_goals first | exact w.reload_le | (show w.timer - 1 ≤ 8; omega)

theorem sweepClock_pulse (w : Sweep) (c : Pulse) :
    (sweepClock w c).2.len = c.len ∧ (sweepClock w c).2.timer = c.timer ∧ (sweepClock w c).2.env = c.env := by
  unfold sweepClock
  dsimp only
  repeat' split
  all_goals exact ⟨rfl, rfl, rfl⟩

/-- The ranges of the APU that hold whether it is on or off. -/
structure Apu.Ranged (samplePeriod : Nat) (u : Apu) : Prop where
  fsCounter : u.fsCounter < 8192
  sampleCounter : u.sampleCounter < samplePeriod
  sweepTimer : u.sweep.timer ≤ 8
  ch1 : u.ch1.Ok
  ch2 : u.ch2.Ok
  ch3 : u.ch3.Ok
  ch4 : u.ch4.Ok

theorem Apu.Ok.ranged {n : Nat} {u : Apu} (h : u.Ok n) : u.Ranged n :=
  ⟨h.fsCounter, h.sampleCounter, h.sweepTimer, h.ch1, h.ch2, h.ch3, h.ch4⟩

theorem Apu.Ranged.ok {n : Nat} {u : Apu} (h : u.Ranged n)
    (hoff : u.on = false → u.ch1.on = false ∧ u.ch2.on = false ∧ u.ch3.on = false ∧ u.ch4.on = false) : u.Ok n :=
  ⟨h.fsCounter, h.sampleCounter, h.sweepTimer, h.ch1, h.ch2, h.ch3, h.ch4, hoff⟩

theorem Apu.Ranged.lengthClock {n : Nat} {u : Apu} (h : u.Ranged n) : u.lengthClock.Ranged n :=
  ⟨h.fsCounter, h.sampleCounter, h.sweepTimer, h.ch1.lenClock, h.ch2.lenClock, h.ch3.lenClock, h.ch4.lenClock⟩

theorem Apu.Ranged.sweepClock {n : Nat} {u : Apu} (h : u.Ranged n) : u.sweepClock.Ranged n := by
  obtain ⟨e1, e2, e3⟩ := sweepClock_pulse u.sweep u.ch1
  exact ⟨h.fsCounter, h.sampleCounter, sweepClock_timer h.sweepTimer u.ch1,
    ⟨e1 ▸ h.ch1.len, e2 ▸ h.ch1.timer, e3 ▸ h.ch1.env⟩, h.ch2, h.ch3, h.ch4⟩

theorem Apu.Ranged.envClock {n : Nat} {u : Apu} (h : u.Ranged n) : u.envClock.Ranged n :=
  ⟨h.fsCounter, h.sampleCounter, h.sweepTimer, ⟨h.ch1.len, h.ch1.timer, h.ch1.env.clock⟩,
    ⟨h.ch2.len, h.ch2.timer, h.ch2.env.clock⟩, h.ch3, ⟨h.ch4.len, h.ch4.timer, h.ch4.env.clock⟩⟩

theorem Apu.Ranged.fsClock {n : Nat} {u : Apu} (h : u.Ranged n) (s : BitVec 3) : (u.fsClock s).Ranged n := by
  unfold Apu.fsClock
  split
  · exact h.lengthClock
  · exact h.lengthClock.sweepClock
  · exact h.lengthClock
  · exact h.lengthClock.sweepClock
  · exact h.envClock
  · exact h

theorem Apu.fsClock_on (u : Apu) (s : BitVec 3) : (u.fsClock s).on = u.on := by
  unfold Apu.fsClock
  split <;> rfl

theorem Apu.Ranged.sequence {n : Nat} {u : Apu} (h : u.Ranged n) : u.sequence.Ranged n := by
  unfold Apu.sequence
  split
  · have h' := h.fsClock u.fsStep
    exact ⟨by show 0 < 8192; omega, h'.sampleCounter, h'.sweepTimer, h'.ch1, h'.ch2, h'.ch3, h'.ch4⟩
  · rename_i hc
    exact ⟨by have := h.fsCounter; show u.fsCounter + 1 < 8192; omega, h.sampleCounter, h.sweepTimer, h.ch1, h.ch2, h.ch3, h.ch4⟩

theorem Apu.sequence_on (u : Apu) : u.sequence.on = u.on := by
  unfold Apu.sequence
  split
  · exact u.fsClock_on u.fsStep
  · rfl

theorem Apu.Ranged.channels {n : Nat} {u : Apu} (h : u.Ranged n) : u.channels.Ranged n :=
  ⟨h.fsCounter, h.sampleCounter, h.sweepTimer, h.ch1.tick, h.ch2.tick, h.ch3.tick, h.ch4.tick⟩

theorem Apu.Ok.sampling {n : Nat} {u : Apu} (h : u.Ok n) (hn : 0 < n) : (u.sampling n).Ok n := by
  unfold Apu.sampling
  split
  · exact ⟨h.fsCounter, hn, h.sweepTimer, h.ch1, h.ch2, h.ch3, h.ch4, h.off⟩
  · exact ⟨h.fsCounter, by have := h.sampleCounter; show u.sampleCounter + 1 < n; omega, h.sweepTimer, h.ch1, h.ch2, h.ch3,
      h.ch4, h.off⟩

theorem Apu.Ok.tick {n : Nat} {u : Apu} (h : u.Ok n) (hn : 0 < n) : (u.tick n).Ok n := by
  unfold Apu.tick
  split
  · rename_i hon
    refine Apu.Ok.sampling (Apu.Ranged.ok h.ranged.sequence.channels fun hoff => ?_) hn
    exact absurd ((u.sequence_on.trans hon).symm.trans hoff) (by decide)
  · exact h.sampling hn

theorem Pulse.Ok.storeControl {c : Pulse} (h : c.Ok) (v : Byte) : (c.storeControl v).Ok := ⟨h.len, h.timer, h.env⟩

theorem Wave.Ok.storeControl {c : Wave} (h : c.Ok) (v : Byte) : (c.storeControl v).Ok := ⟨h.len, h.timer, h.wave⟩

theorem Apu.Ranged.storeReg {n : Nat} {u : Apu} (h : u.Ranged n) (r : ApuReg) (v : Byte) : (u.storeReg r v).Ranged n := by
  obtain ⟨h1, h2, h3, c1, c2, c3, c4⟩ := h
  cases r with
  | nr14 =>
    have k := c1.storeControl v
    unfold Apu.storeReg
    dsimp only
    split
    · exact ⟨h1, h2, Sweep.reload_le _, ⟨triggerLen_le k.len, Pulse.periodT_pos _, Envelope.Ok.trigger _⟩, c2, c3, c4⟩
    · exact ⟨h1, h2, h3, k, c2, c3, c4⟩
  | nr24 =>
    have k := c2.storeControl v
    refine ⟨h1, h2, h3, c1, ?_, c3, c4⟩
    show Pulse.Ok (if v.getLsbD 7 then (u.ch2.storeControl v).trigger else u.ch2.storeControl v)
    split
    · exact k.trigger
    · exact k
  | nr34 =>
    have k := c3.storeControl v
    refine ⟨h1, h2, h3, c1, c2, ?_, c4⟩
    show Wave.Ok (if v.getLsbD 7 then (u.ch3.storeControl v).trigger else u.ch3.storeControl v)
    split
    · exact k.trigger
    · exact k
  | nr44 =>
    have k : Noise.Ok { u.ch4 with lenEn := v.getLsbD 6 } := ⟨c4.len, c4.timer, c4.env⟩
    refine ⟨h1, h2, h3, c1, c2, c3, ?_⟩
    show Noise.Ok (if v.getLsbD 7 then Noise.trigger { u.ch4 with lenEn := v.getLsbD 6 } else { u.ch4 with lenEn := v.getLsbD 6 })
    split
    · exact k.trigger
    · exact k
  | nr11 => exact ⟨h1, h2, h3, ⟨Nat.sub_le _ _, c1.timer, c1.env⟩, c2, c3, c4⟩
  | nr21 => exact ⟨h1, h2, h3, c1, ⟨Nat.sub_le _ _, c2.timer, c2.env⟩, c3, c4⟩
  | nr31 => exact ⟨h1, h2, h3, c1, c2, ⟨Nat.sub_le _ _, c3.timer, c3.wave⟩, c4⟩
  | nr41 => exact ⟨h1, h2, h3, c1, c2, c3, ⟨Nat.sub_le _ _, c4.timer, c4.env⟩⟩
  | nr12 => exact ⟨h1, h2, h3, ⟨c1.len, c1.timer, c1.env.store v⟩, c2, c3, c4⟩
  | nr22 => exact ⟨h1, h2, h3, c1, ⟨c2.len, c2.timer, c2.env.store v⟩, c3, c4⟩
  | nr42 => exact ⟨h1, h2, h3, c1, c2, c3, ⟨c4.len, c4.timer, c4.env.store v⟩⟩
  | nr10 => exact ⟨h1, h2, h3, c1, c2, c3, c4⟩
  | nr13 => exact ⟨h1, h2, h3, ⟨c1.len, c1.timer, c1.env⟩, c2, c3, c4⟩
  | nr23 => exact ⟨h1, h2, h3, c1, ⟨c2.len, c2.timer, c2.env⟩, c3, c4⟩
  | nr30 => exact ⟨h1, h2, h3, c1, c2, ⟨c3.len, c3.timer, c3.wave⟩, c4⟩
  | nr32 => exact ⟨h1, h2, h3, c1, c2, ⟨c3.len, c3.timer, c3.wave⟩, c4⟩
  | nr33 => exact ⟨h1, h2, h3, c1, c2, ⟨c3.len, c3.timer, c3.wave⟩, c4⟩
  | nr43 => exact ⟨h1, h2, h3, c1, c2, c3, ⟨c4.len, c4.timer, c4.env⟩⟩
  | nr50 => exact ⟨h1, h2, h3, c1, c2, c3, c4⟩
  | nr51 => exact ⟨h1, h2, h3, c1, c2, c3, c4⟩
  | nr52 => exact ⟨h1, h2, h3, c1, c2, c3, c4⟩

theorem Apu.storeReg_on (u : Apu) (r : ApuReg) (v : Byte) : (u.storeReg r v).on = u.on := by
  cases r <;> first | rfl | (unfold Apu.storeReg; dsimp only; split <;> rfl)

theorem Apu.Ok.powerOff {n : Nat} {u : Apu} (h : u.Ok n) : u.powerOff.Ok n :=
  ⟨h.fsCounter, h.sampleCounter, h.sweepTimer, ⟨Nat.zero_le _, h.ch1.timer, h.ch1.env.powerOff⟩,
    ⟨Nat.zero_le _, h.ch2.timer, h.ch2.env.powerOff⟩, ⟨Nat.zero_le _, h.ch3.timer, h.ch3.wave⟩,
    ⟨Nat.zero_le _, h.ch4.timer, h.ch4.env.powerOff⟩, fun _ => ⟨rfl, rfl, rfl, rfl⟩⟩

theorem Apu.Ok.powerOn {n : Nat} {u : Apu} (h : u.Ok n) : u.powerOn.Ok n :=
  ⟨by show 0 < 8192; omega, h.sampleCounter, h.sweepTimer, ⟨h.ch1.len, h.ch1.timer, h.ch1.env⟩,
    ⟨h.ch2.len, h.ch2.timer, h.ch2.env⟩, ⟨h.ch3.len, h.ch3.timer, h.ch3.wave⟩, h.ch4, fun hoff => (nomatch hoff)⟩

theorem Apu.Ok.writeReg {n : Nat} {u : Apu} (h : u.Ok n) (r : ApuReg) (v : Byte) : (u.writeReg r v).Ok n := by
  unfold Apu.writeReg
  split
  · split
    · exact h
    · split
      · exact h.powerOn
      · exact h.powerOff
  · split
    · rename_i hon
      refine Apu.Ranged.ok (h.ranged.storeReg r v) fun hoff => ?_
      exact absurd ((u.storeReg_on r v).trans hon |>.symm.trans hoff) (by decide)
    · exact h

theorem Apu.Ok.writeWave {n : Nat} {u : Apu} (h : u.Ok n) {k : Nat} (hk : k < 16) (v : Byte) : (u.writeWave k v).Ok n :=
  ⟨h.fsCounter, h.sampleCounter, h.sweepTimer, h.ch1, h.ch2, ⟨h.ch3.len, h.ch3.timer, h.ch3.wave.write k v hk⟩, h.ch4, h.off⟩

/-! The cartridge. -/

theorem Mbc.write_bank {m : Mbc} (h : m.romBankLo ≠ 0) (a : Nat) (v : Byte) : (m.write a v).romBankLo ≠ 0 := by
  unfold Mbc.write
  split
  · exact h
  · split
    · show (if v.extractLsb' 0 5 = 0#5 then (1 : BitVec 5) else v.extractLsb' 0 5) ≠ 0
      split
      · decide
      · assumption
    · split <;> exact h

theorem Cartridge.Ok.writeRom {c : Cartridge} (h : c.Ok) (a : Nat) (v : Byte) : (c.writeRom a v).Ok := by
  refine ⟨h.rom, h.ram, ?_⟩
  show Mbc.romBankLo (match c.kind with | .none => c.mbc | .mbc1 => c.mbc.write a v) ≠ 0
  split
  · exact h.bank
  · exact Mbc.write_bank h.bank a v

theorem Cartridge.ramOffset_lt {c : Cartridge} (h : c.ramOpen = true) (a : Nat) : c.ramOffset a < c.ramSize := by
  unfold Cartridge.ramOpen at h
  split at h
  · cases h
  · simp only [Bool.and_eq_true, decide_eq_true_eq] at h
    exact Nat.mod_lt _ (Nat.pos_of_ne_zero h.1)

theorem Cartridge.Ok.writeRam {c : Cartridge} (h : c.Ok) (a : Nat) (v : Byte) : (c.writeRam a v).Ok := by
  refine ⟨h.rom, ?_, h.bank⟩
  show Memory.Ok (if c.ramOpen then c.ram.write (c.ramOffset a) v else c.ram) c.ramSize
  split
  · rename_i ho
    exact h.ram.write _ v (Cartridge.ramOffset_lt ho a)
  · exact h.ram

end Sys2Proof.Machine
end

