-- ==== Sys2Proof/Laws/Bus.lean ====
section
/-! SUPPORT. What a bus write can do to the state, and that bus writes and the passing of time keep the invariant. -/

namespace Sys2Proof.Machine

/-! Reset or not, a write never touches these. -/

theorem State.writeIo_cfg (s : State) (r : IoReg) (v : Byte) : (s.writeIo r v).cfg = s.cfg := by cases r <;> rfl

@[simp] theorem State.write_cfg (s : State) (a : Word) (v : Byte) : (s.write a v).cfg = s.cfg := by
  unfold State.write
  cases regionOf a with
  | io => exact s.writeIo_cfg _ v
  | _ => rfl

theorem State.writeIo_cycles (s : State) (r : IoReg) (v : Byte) : (s.writeIo r v).cycles = s.cycles := by cases r <;> rfl

@[simp] theorem State.write_cycles (s : State) (a : Word) (v : Byte) : (s.write a v).cycles = s.cycles := by
  unfold State.write
  cases regionOf a with
  | io => exact s.writeIo_cycles _ v
  | _ => rfl

/-- A write of an I/O register leaves the CPU alone, but a P1 write can clear `stopped` (60_exceptions R352). -/
theorem State.writeIo_cpu (s : State) (r : IoReg) (v : Byte) :
    (s.writeIo r v).cpu = s.cpu ∨ (s.writeIo r v).cpu = { s.cpu with stopped := false } := by
  cases r with
  | p1 =>
    have e : (s.writeIo .p1 v).cpu =
      { s.cpu with stopped := s.cpu.stopped && !Joypad.falls { s.joypad with p1Sel := v.extractLsb' 4 2 } } := rfl
    rw [e]
    cases Joypad.falls { s.joypad with p1Sel := v.extractLsb' 4 2 } <;> simp
  | _ => exact .inl rfl

/-- A write leaves the CPU alone, but a P1 write can clear `stopped`. -/
theorem State.write_cpu (s : State) (a : Word) (v : Byte) :
    (s.write a v).cpu = s.cpu ∨ (s.write a v).cpu = { s.cpu with stopped := false } := by
  unfold State.write
  cases regionOf a with
  | io => exact s.writeIo_cpu _ v
  | _ => exact .inl rfl

/-- A field of the CPU other than `stopped` is the same after a write. -/
theorem State.write_cpu_field {α : Type} (g : Cpu → α) (hg : ∀ (c : Cpu) (b : Bool), g { c with stopped := b } = g c) (s : State)
    (a : Word) (v : Byte) : g (s.write a v).cpu = g s.cpu := by
  rcases s.write_cpu a v with h | h <;> rw [h]
  exact hg _ _

@[simp] theorem State.write_a (s : State) (a : Word) (v : Byte) : (s.write a v).cpu.a = s.cpu.a :=
  s.write_cpu_field Cpu.a (fun _ _ => rfl) a v
@[simp] theorem State.write_f (s : State) (a : Word) (v : Byte) : (s.write a v).cpu.f = s.cpu.f :=
  s.write_cpu_field Cpu.f (fun _ _ => rfl) a v
@[simp] theorem State.write_b (s : State) (a : Word) (v : Byte) : (s.write a v).cpu.b = s.cpu.b :=
  s.write_cpu_field Cpu.b (fun _ _ => rfl) a v
@[simp] theorem State.write_c (s : State) (a : Word) (v : Byte) : (s.write a v).cpu.c = s.cpu.c :=
  s.write_cpu_field Cpu.c (fun _ _ => rfl) a v
@[simp] theorem State.write_d (s : State) (a : Word) (v : Byte) : (s.write a v).cpu.d = s.cpu.d :=
  s.write_cpu_field Cpu.d (fun _ _ => rfl) a v
@[simp] theorem State.write_e (s : State) (a : Word) (v : Byte) : (s.write a v).cpu.e = s.cpu.e :=
  s.write_cpu_field Cpu.e (fun _ _ => rfl) a v
@[simp] theorem State.write_h (s : State) (a : Word) (v : Byte) : (s.write a v).cpu.h = s.cpu.h :=
  s.write_cpu_field Cpu.h (fun _ _ => rfl) a v
@[simp] theorem State.write_l (s : State) (a : Word) (v : Byte) : (s.write a v).cpu.l = s.cpu.l :=
  s.write_cpu_field Cpu.l (fun _ _ => rfl) a v
@[simp] theorem State.write_hl (s : State) (a : Word) (v : Byte) : (s.write a v).cpu.hl = s.cpu.hl :=
  s.write_cpu_field Cpu.hl (fun _ _ => rfl) a v
@[simp] theorem State.write_get (s : State) (a : Word) (v : Byte) (r : Reg8) : (s.write a v).cpu.get r = s.cpu.get r :=
  s.write_cpu_field (fun c => c.get r) (fun _ _ => by cases r <;> rfl) a v
@[simp] theorem State.write_sp (s : State) (a : Word) (v : Byte) : (s.write a v).cpu.sp = s.cpu.sp :=
  s.write_cpu_field Cpu.sp (fun _ _ => rfl) a v
@[simp] theorem State.write_pc (s : State) (a : Word) (v : Byte) : (s.write a v).cpu.pc = s.cpu.pc :=
  s.write_cpu_field Cpu.pc (fun _ _ => rfl) a v
@[simp] theorem State.write_ime (s : State) (a : Word) (v : Byte) : (s.write a v).cpu.ime = s.cpu.ime :=
  s.write_cpu_field Cpu.ime (fun _ _ => rfl) a v
@[simp] theorem State.write_eiPending (s : State) (a : Word) (v : Byte) : (s.write a v).cpu.eiPending = s.cpu.eiPending :=
  s.write_cpu_field Cpu.eiPending (fun _ _ => rfl) a v
@[simp] theorem State.write_halted (s : State) (a : Word) (v : Byte) : (s.write a v).cpu.halted = s.cpu.halted :=
  s.write_cpu_field Cpu.halted (fun _ _ => rfl) a v
@[simp] theorem State.write_haltBug (s : State) (a : Word) (v : Byte) : (s.write a v).cpu.haltBug = s.cpu.haltBug :=
  s.write_cpu_field Cpu.haltBug (fun _ _ => rfl) a v

/-- A running CPU is not touched by a write at all. -/
theorem State.write_cpu_running (s : State) (a : Word) (v : Byte) (h : s.cpu.stopped = false) : (s.write a v).cpu = s.cpu := by
  rcases s.write_cpu a v with e | e
  · exact e
  · rw [e, ← h]

/-! The regions. -/

theorem regionOf_vram {a : Word} (h : regionOf a = .vram) : 0x8000 ≤ a.toNat ∧ a.toNat < 0xA000 := by
  unfold regionOf at h
  repeat' split at h
  all_goals first | omega | cases h

theorem regionOf_cartRam {a : Word} (h : regionOf a = .cartRam) : 0xA000 ≤ a.toNat ∧ a.toNat < 0xC000 := by
  unfold regionOf at h
  repeat' split at h
  all_goals first | omega | cases h

theorem regionOf_wram {a : Word} (h : regionOf a = .wram) : 0xC000 ≤ a.toNat ∧ a.toNat < 0xE000 := by
  unfold regionOf at h
  repeat' split at h
  all_goals first | omega | cases h

theorem regionOf_echo {a : Word} (h : regionOf a = .echo) : 0xE000 ≤ a.toNat ∧ a.toNat < 0xFE00 := by
  unfold regionOf at h
  repeat' split at h
  all_goals first | omega | cases h

theorem regionOf_oam {a : Word} (h : regionOf a = .oam) : 0xFE00 ≤ a.toNat ∧ a.toNat < 0xFEA0 := by
  unfold regionOf at h
  repeat' split at h
  all_goals first | omega | cases h

theorem regionOf_io {a : Word} (h : regionOf a = .io) : 0xFF00 ≤ a.toNat ∧ a.toNat < 0xFF80 := by
  unfold regionOf at h
  repeat' split at h
  all_goals first | omega | cases h

theorem regionOf_hram {a : Word} (h : regionOf a = .hram) : 0xFF80 ≤ a.toNat ∧ a.toNat < 0xFFFF := by
  unfold regionOf at h
  repeat' split at h
  all_goals first | omega | cases h

theorem regionOf_ie {a : Word} (h : regionOf a = .ie) : a.toNat = 0xFFFF := by
  have := a.isLt
  unfold regionOf at h
  repeat' split at h
  all_goals first | omega | cases h

theorem deviceRegAt_ne_wave (k j : Nat) : deviceRegAt k ≠ .wave j := by
  unfold deviceRegAt
  split <;> exact IoReg.noConfusion

theorem ioRegOf_wave {a : Word} {k : Nat} (h : ioRegOf a = .wave k) : k < 16 := by
  unfold ioRegOf at h
  dsimp only at h
  split at h
  · cases hr : apuRegAt (a.toNat - 0xFF00) <;> rw [hr] at h <;> cases h
  · split at h
    · have := IoReg.wave.inj h
      omega
    · exact absurd h (deviceRegAt_ne_wave _ _)

/-! The invariant. -/

/-- The CPU's part of the invariant looks only at F, the halt bug, IME and the EI latch. -/
theorem Cpu.Ok.congr {c d : Cpu} (h : c.Ok) (hf : maskF d.f = d.f) (hb : d.haltBug = c.haltBug) (hi : d.ime = c.ime)
    (he : d.eiPending = c.eiPending) : d.Ok :=
  ⟨hf, by rw [hb, hi, he]; exact h.haltBug⟩

theorem State.Inv.setCpu {s : State} (h : s.Inv) {c : Cpu} (hc : c.Ok) : (s.setCpu c).Inv :=
  ⟨h.cfg, hc, h.timer, h.joypad, h.ppu, h.apu, h.cart, h.wram, h.hram⟩

theorem State.Inv.setCycles {s : State} (h : s.Inv) (n : Nat) : State.Inv { s with cycles := n } :=
  ⟨h.cfg, h.cpu, h.timer, h.joypad, h.ppu, h.apu, h.cart, h.wram, h.hram⟩

theorem State.Inv.setInts {s : State} (h : s.Inv) (i : Interrupts) : State.Inv { s with ints := i } :=
  ⟨h.cfg, h.cpu, h.timer, h.joypad, h.ppu, h.apu, h.cart, h.wram, h.hram⟩

theorem Config.wellFormed_mode3Len {c : Config} (h : c.wellFormed = true) : 172 ≤ c.mode3Len ∧ c.mode3Len ≤ 289 := by
  simp only [Config.wellFormed, Bool.and_eq_true, decide_eq_true_eq] at h
  exact h.1

theorem Config.wellFormed_samplePeriod {c : Config} (h : c.wellFormed = true) : 0 < c.samplePeriod := by
  simp only [Config.wellFormed, Bool.and_eq_true, decide_eq_true_eq] at h
  exact h.2

theorem State.Inv.tick {s : State} (h : s.Inv) : s.tick.Inv where
  cfg := h.cfg
  cpu := h.cpu
  timer := h.timer.tick
  joypad := h.joypad
  ppu := h.ppu.tick (by have := Config.wellFormed_mode3Len h.cfg; omega)
  apu := h.apu.tick (Config.wellFormed_samplePeriod h.cfg)
  cart := h.cart
  wram := h.wram
  hram := h.hram

theorem State.Inv.advance {s : State} (h : s.Inv) (n : Nat) : (s.advance n).Inv := by
  induction n generalizing s with
  | zero => exact h
  | succ n ih => exact ih h.tick

theorem State.Inv.mcycle {s : State} (h : s.Inv) : s.mcycle.Inv := by
  unfold State.mcycle State.advanceMcycle
  split
  · exact h.setCycles _
  · exact (h.advance 4).setCycles _

theorem State.Inv.finish {s : State} (h : s.Inv) : s.finish.Inv := by
  unfold State.finish
  split <;> exact h.advance _

theorem State.Inv.setPpu {s : State} (h : s.Inv) {p : Ppu} (hp : p.Ok s.cfg.mode3Len) : State.Inv { s with ppu := p } :=
  ⟨h.cfg, h.cpu, h.timer, h.joypad, hp, h.apu, h.cart, h.wram, h.hram⟩

theorem State.Inv.setTimer {s : State} (h : s.Inv) {t : Timer} (ht : t.Ok) : State.Inv { s with timer := t } :=
  ⟨h.cfg, h.cpu, ht, h.joypad, h.ppu, h.apu, h.cart, h.wram, h.hram⟩

theorem State.Inv.setApu {s : State} (h : s.Inv) {u : Apu} (hu : u.Ok s.cfg.samplePeriod) : State.Inv { s with apu := u } :=
  ⟨h.cfg, h.cpu, h.timer, h.joypad, h.ppu, hu, h.cart, h.wram, h.hram⟩

theorem State.Inv.setSerial {s : State} (h : s.Inv) (c : Serial) : State.Inv { s with serial := c } :=
  ⟨h.cfg, h.cpu, h.timer, h.joypad, h.ppu, h.apu, h.cart, h.wram, h.hram⟩

theorem State.Inv.withStatUpdate {s : State} (h : s.Inv) {p : Ppu} (hp : p.statUpdate.Ok s.cfg.mode3Len) : (s.withStatUpdate p).Inv :=
  ⟨h.cfg, h.cpu, h.timer, h.joypad, hp, h.apu, h.cart, h.wram, h.hram⟩

theorem State.dmaOam_ok (s : State) (v : Byte) : (s.dmaOam v).Ok 160 := Memory.Ok.ofBytes _ _ (by simp)

theorem State.Inv.writeIo {s : State} (h : s.Inv) (r : IoReg) (v : Byte) (hw : ∀ k, r = .wave k → k < 16) : (s.writeIo r v).Inv := by
  cases r with
  | p1 =>
    refine ⟨h.cfg, h.cpu.congr h.cpu.flags rfl rfl rfl, h.timer, Joypad.Ok.latch _, h.ppu, h.apu, h.cart, h.wram, h.hram⟩
  | sb => exact h.setSerial _
  | sc => exact h.setSerial _
  | div => exact h.setTimer h.timer.writeDiv
  | tima => exact h.setTimer (h.timer.writeTima v)
  | tma => exact h.setTimer (h.timer.writeTma v)
  | tac => exact h.setTimer (h.timer.writeTac v)
  | ifReg => exact h.setInts _
  | apu r => exact h.setApu (h.apu.writeReg r v)
  | wave k => exact h.setApu (h.apu.writeWave (hw k rfl) v)
  | lcdc => exact h.withStatUpdate (h.ppu.storeLcdc v)
  | stat => exact h.withStatUpdate (h.ppu.storeStat v)
  | lyc => exact h.withStatUpdate (h.ppu.storeLyc v)
  | dma => exact h.setPpu (h.ppu.congr rfl rfl rfl rfl rfl rfl rfl rfl h.ppu.vram (s.dmaOam_ok v))
  | ly => exact h
  | unmapped => exact h
  | scy => exact h.setPpu (h.ppu.congr rfl rfl rfl rfl rfl rfl rfl rfl h.ppu.vram h.ppu.oam)
  | scx => exact h.setPpu (h.ppu.congr rfl rfl rfl rfl rfl rfl rfl rfl h.ppu.vram h.ppu.oam)
  | bgp => exact h.setPpu (h.ppu.congr rfl rfl rfl rfl rfl rfl rfl rfl h.ppu.vram h.ppu.oam)
  | obp0 => exact h.setPpu (h.ppu.congr rfl rfl rfl rfl rfl rfl rfl rfl h.ppu.vram h.ppu.oam)
  | obp1 => exact h.setPpu (h.ppu.congr rfl rfl rfl rfl rfl rfl rfl rfl h.ppu.vram h.ppu.oam)
  | wy => exact h.setPpu (h.ppu.congr rfl rfl rfl rfl rfl rfl rfl rfl h.ppu.vram h.ppu.oam)
  | wx => exact h.setPpu (h.ppu.congr rfl rfl rfl rfl rfl rfl rfl rfl h.ppu.vram h.ppu.oam)

/-- Every bus write keeps the invariant. -/
theorem State.Inv.write {s : State} (h : s.Inv) (a : Word) (v : Byte) : (s.write a v).Inv := by
  unfold State.write
  cases hr : regionOf a with
  | rom => exact ⟨h.cfg, h.cpu, h.timer, h.joypad, h.ppu, h.apu, h.cart.writeRom _ v, h.wram, h.hram⟩
  | vram =>
    have := regionOf_vram hr
    exact h.setPpu (h.ppu.writeVram (by omega) v)
  | cartRam => exact ⟨h.cfg, h.cpu, h.timer, h.joypad, h.ppu, h.apu, h.cart.writeRam _ v, h.wram, h.hram⟩
  | wram =>
    have := regionOf_wram hr
    exact ⟨h.cfg, h.cpu, h.timer, h.joypad, h.ppu, h.apu, h.cart, h.wram.write _ v (by omega), h.hram⟩
  | echo =>
    have := regionOf_echo hr
    exact ⟨h.cfg, h.cpu, h.timer, h.joypad, h.ppu, h.apu, h.cart, h.wram.write _ v (by omega), h.hram⟩
  | oam =>
    have := regionOf_oam hr
    exact h.setPpu (h.ppu.writeOam (by omega) v)
  | unusable => exact h
  | io => exact h.writeIo _ v fun k hk => ioRegOf_wave hk
  | hram =>
    have := regionOf_hram hr
    exact ⟨h.cfg, h.cpu, h.timer, h.joypad, h.ppu, h.apu, h.cart, h.wram, h.hram.write _ v (by omega)⟩
  | ie => exact h.setInts _

end Sys2Proof.Machine
end

