-- ==== Sys2Proof/Laws/Decode.lean ====
section
/-! SUPPORT. The decoding of every row of spec/opcode_table.json, sixteen rows a theorem: the bytes are its `encoding` with the codes of 30_encoding
R127 to R131 in the fields, every operand byte free. -/

namespace Sys2Proof

theorem decode_rows_00 :
    decode [0b00000000] = .ok (.nop, []) ∧ (∀ lo hi : Byte, decode [0b00000001, lo, hi] = .ok (.ld_bc_nn (wordOf hi lo), [])) ∧
    decode [0b00000010] = .ok (.ld_atBC_a, []) ∧ decode [0b00000011] = .ok (.inc_bc, []) ∧ decode [0b00000100] = .ok (.inc_b, []) ∧
    decode [0b00000101] = .ok (.dec_b, []) ∧ (∀ n : Byte, decode [0b00000110, n] = .ok (.ld_b_n n, [])) ∧
    decode [0b00000111] = .ok (.rlca, []) ∧ (∀ lo hi : Byte, decode [0b00001000, lo, hi] = .ok (.ld_atNN_sp (wordOf hi lo), [])) ∧
    decode [0b00001001] = .ok (.add_hl_bc, []) ∧ decode [0b00001010] = .ok (.ld_a_atBC, []) ∧ decode [0b00001011] = .ok (.dec_bc, []) ∧
    decode [0b00001100] = .ok (.inc_c, []) ∧ decode [0b00001101] = .ok (.dec_c, []) ∧
    (∀ n : Byte, decode [0b00001110, n] = .ok (.ld_c_n n, [])) ∧ decode [0b00001111] = .ok (.rrca, []) :=
  ⟨rfl, fun _ _ => rfl, rfl, rfl, rfl, rfl, fun _ => rfl, rfl, fun _ _ => rfl, rfl, rfl, rfl, rfl, rfl, fun _ => rfl, rfl⟩

theorem decode_rows_10 :
    (∀ x : Byte, decode [0b00010000, x] = .ok (.stop x, [])) ∧
    (∀ lo hi : Byte, decode [0b00010001, lo, hi] = .ok (.ld_de_nn (wordOf hi lo), [])) ∧ decode [0b00010010] = .ok (.ld_atDE_a, []) ∧
    decode [0b00010011] = .ok (.inc_de, []) ∧ decode [0b00010100] = .ok (.inc_d, []) ∧ decode [0b00010101] = .ok (.dec_d, []) ∧
    (∀ n : Byte, decode [0b00010110, n] = .ok (.ld_d_n n, [])) ∧ decode [0b00010111] = .ok (.rla, []) ∧
    (∀ e : Byte, decode [0b00011000, e] = .ok (.jr_e e, [])) ∧ decode [0b00011001] = .ok (.add_hl_de, []) ∧
    decode [0b00011010] = .ok (.ld_a_atDE, []) ∧ decode [0b00011011] = .ok (.dec_de, []) ∧ decode [0b00011100] = .ok (.inc_e, []) ∧
    decode [0b00011101] = .ok (.dec_e, []) ∧ (∀ n : Byte, decode [0b00011110, n] = .ok (.ld_e_n n, [])) ∧
    decode [0b00011111] = .ok (.rra, []) :=
  ⟨fun _ => rfl, fun _ _ => rfl, rfl, rfl, rfl, rfl, fun _ => rfl, rfl, fun _ => rfl, rfl, rfl, rfl, rfl, rfl, fun _ => rfl, rfl⟩

theorem decode_rows_20 :
    (∀ e : Byte, decode [0b00100000, e] = .ok (.jr_nz_e e, [])) ∧
    (∀ lo hi : Byte, decode [0b00100001, lo, hi] = .ok (.ld_hl_nn (wordOf hi lo), [])) ∧ decode [0b00100010] = .ok (.ld_atHLinc_a, []) ∧
    decode [0b00100011] = .ok (.inc_hl, []) ∧ decode [0b00100100] = .ok (.inc_h, []) ∧ decode [0b00100101] = .ok (.dec_h, []) ∧
    (∀ n : Byte, decode [0b00100110, n] = .ok (.ld_h_n n, [])) ∧ decode [0b00100111] = .ok (.daa, []) ∧
    (∀ e : Byte, decode [0b00101000, e] = .ok (.jr_z_e e, [])) ∧ decode [0b00101001] = .ok (.add_hl_hl, []) ∧
    decode [0b00101010] = .ok (.ld_a_atHLinc, []) ∧ decode [0b00101011] = .ok (.dec_hl, []) ∧ decode [0b00101100] = .ok (.inc_l, []) ∧
    decode [0b00101101] = .ok (.dec_l, []) ∧ (∀ n : Byte, decode [0b00101110, n] = .ok (.ld_l_n n, [])) ∧
    decode [0b00101111] = .ok (.cpl, []) :=
  ⟨fun _ => rfl, fun _ _ => rfl, rfl, rfl, rfl, rfl, fun _ => rfl, rfl, fun _ => rfl, rfl, rfl, rfl, rfl, rfl, fun _ => rfl, rfl⟩

theorem decode_rows_30 :
    (∀ e : Byte, decode [0b00110000, e] = .ok (.jr_nc_e e, [])) ∧
    (∀ lo hi : Byte, decode [0b00110001, lo, hi] = .ok (.ld_sp_nn (wordOf hi lo), [])) ∧ decode [0b00110010] = .ok (.ld_atHLdec_a, []) ∧
    decode [0b00110011] = .ok (.inc_sp, []) ∧ decode [0b00110100] = .ok (.inc_atHL, []) ∧ decode [0b00110101] = .ok (.dec_atHL, []) ∧
    (∀ n : Byte, decode [0b00110110, n] = .ok (.ld_atHL_n n, [])) ∧ decode [0b00110111] = .ok (.scf, []) ∧
    (∀ e : Byte, decode [0b00111000, e] = .ok (.jr_c_e e, [])) ∧ decode [0b00111001] = .ok (.add_hl_sp, []) ∧
    decode [0b00111010] = .ok (.ld_a_atHLdec, []) ∧ decode [0b00111011] = .ok (.dec_sp, []) ∧ decode [0b00111100] = .ok (.inc_a, []) ∧
    decode [0b00111101] = .ok (.dec_a, []) ∧ (∀ n : Byte, decode [0b00111110, n] = .ok (.ld_a_n n, [])) ∧
    decode [0b00111111] = .ok (.ccf, []) :=
  ⟨fun _ => rfl, fun _ _ => rfl, rfl, rfl, rfl, rfl, fun _ => rfl, rfl, fun _ => rfl, rfl, rfl, rfl, rfl, rfl, fun _ => rfl, rfl⟩

theorem decode_rows_40 :
    decode [0b01000000] = .ok (.ld_b_b, []) ∧ decode [0b01000001] = .ok (.ld_b_c, []) ∧ decode [0b01000010] = .ok (.ld_b_d, []) ∧
    decode [0b01000011] = .ok (.ld_b_e, []) ∧ decode [0b01000100] = .ok (.ld_b_h, []) ∧ decode [0b01000101] = .ok (.ld_b_l, []) ∧
    decode [0b01000110] = .ok (.ld_b_atHL, []) ∧ decode [0b01000111] = .ok (.ld_b_a, []) ∧ decode [0b01001000] = .ok (.ld_c_b, []) ∧
    decode [0b01001001] = .ok (.ld_c_c, []) ∧ decode [0b01001010] = .ok (.ld_c_d, []) ∧ decode [0b01001011] = .ok (.ld_c_e, []) ∧
    decode [0b01001100] = .ok (.ld_c_h, []) ∧ decode [0b01001101] = .ok (.ld_c_l, []) ∧ decode [0b01001110] = .ok (.ld_c_atHL, []) ∧
    decode [0b01001111] = .ok (.ld_c_a, []) :=
  ⟨rfl, rfl, rfl, rfl, rfl, rfl, rfl, rfl, rfl, rfl, rfl, rfl, rfl, rfl, rfl, rfl⟩

theorem decode_rows_50 :
    decode [0b01010000] = .ok (.ld_d_b, []) ∧ decode [0b01010001] = .ok (.ld_d_c, []) ∧ decode [0b01010010] = .ok (.ld_d_d, []) ∧
    decode [0b01010011] = .ok (.ld_d_e, []) ∧ decode [0b01010100] = .ok (.ld_d_h, []) ∧ decode [0b01010101] = .ok (.ld_d_l, []) ∧
    decode [0b01010110] = .ok (.ld_d_atHL, []) ∧ decode [0b01010111] = .ok (.ld_d_a, []) ∧ decode [0b01011000] = .ok (.ld_e_b, []) ∧
    decode [0b01011001] = .ok (.ld_e_c, []) ∧ decode [0b01011010] = .ok (.ld_e_d, []) ∧ decode [0b01011011] = .ok (.ld_e_e, []) ∧
    decode [0b01011100] = .ok (.ld_e_h, []) ∧ decode [0b01011101] = .ok (.ld_e_l, []) ∧ decode [0b01011110] = .ok (.ld_e_atHL, []) ∧
    decode [0b01011111] = .ok (.ld_e_a, []) :=
  ⟨rfl, rfl, rfl, rfl, rfl, rfl, rfl, rfl, rfl, rfl, rfl, rfl, rfl, rfl, rfl, rfl⟩

theorem decode_rows_60 :
    decode [0b01100000] = .ok (.ld_h_b, []) ∧ decode [0b01100001] = .ok (.ld_h_c, []) ∧ decode [0b01100010] = .ok (.ld_h_d, []) ∧
    decode [0b01100011] = .ok (.ld_h_e, []) ∧ decode [0b01100100] = .ok (.ld_h_h, []) ∧ decode [0b01100101] = .ok (.ld_h_l, []) ∧
    decode [0b01100110] = .ok (.ld_h_atHL, []) ∧ decode [0b01100111] = .ok (.ld_h_a, []) ∧ decode [0b01101000] = .ok (.ld_l_b, []) ∧
    decode [0b01101001] = .ok (.ld_l_c, []) ∧ decode [0b01101010] = .ok (.ld_l_d, []) ∧ decode [0b01101011] = .ok (.ld_l_e, []) ∧
    decode [0b01101100] = .ok (.ld_l_h, []) ∧ decode [0b01101101] = .ok (.ld_l_l, []) ∧ decode [0b01101110] = .ok (.ld_l_atHL, []) ∧
    decode [0b01101111] = .ok (.ld_l_a, []) :=
  ⟨rfl, rfl, rfl, rfl, rfl, rfl, rfl, rfl, rfl, rfl, rfl, rfl, rfl, rfl, rfl, rfl⟩

theorem decode_rows_70 :
    decode [0b01110000] = .ok (.ld_atHL_b, []) ∧ decode [0b01110001] = .ok (.ld_atHL_c, []) ∧ decode [0b01110010] = .ok (.ld_atHL_d, []) ∧
    decode [0b01110011] = .ok (.ld_atHL_e, []) ∧ decode [0b01110100] = .ok (.ld_atHL_h, []) ∧ decode [0b01110101] = .ok (.ld_atHL_l, []) ∧
    decode [0b01110110] = .ok (.halt, []) ∧ decode [0b01110111] = .ok (.ld_atHL_a, []) ∧ decode [0b01111000] = .ok (.ld_a_b, []) ∧
    decode [0b01111001] = .ok (.ld_a_c, []) ∧ decode [0b01111010] = .ok (.ld_a_d, []) ∧ decode [0b01111011] = .ok (.ld_a_e, []) ∧
    decode [0b01111100] = .ok (.ld_a_h, []) ∧ decode [0b01111101] = .ok (.ld_a_l, []) ∧ decode [0b01111110] = .ok (.ld_a_atHL, []) ∧
    decode [0b01111111] = .ok (.ld_a_a, []) :=
  ⟨rfl, rfl, rfl, rfl, rfl, rfl, rfl, rfl, rfl, rfl, rfl, rfl, rfl, rfl, rfl, rfl⟩

theorem decode_rows_80 :
    decode [0b10000000] = .ok (.add_a_b, []) ∧ decode [0b10000001] = .ok (.add_a_c, []) ∧ decode [0b10000010] = .ok (.add_a_d, []) ∧
    decode [0b10000011] = .ok (.add_a_e, []) ∧ decode [0b10000100] = .ok (.add_a_h, []) ∧ decode [0b10000101] = .ok (.add_a_l, []) ∧
    decode [0b10000110] = .ok (.add_a_atHL, []) ∧ decode [0b10000111] = .ok (.add_a_a, []) ∧ decode [0b10001000] = .ok (.adc_a_b, []) ∧
    decode [0b10001001] = .ok (.adc_a_c, []) ∧ decode [0b10001010] = .ok (.adc_a_d, []) ∧ decode [0b10001011] = .ok (.adc_a_e, []) ∧
    decode [0b10001100] = .ok (.adc_a_h, []) ∧ decode [0b10001101] = .ok (.adc_a_l, []) ∧ decode [0b10001110] = .ok (.adc_a_atHL, []) ∧
    decode [0b10001111] = .ok (.adc_a_a, []) :=
  ⟨rfl, rfl, rfl, rfl, rfl, rfl, rfl, rfl, rfl, rfl, rfl, rfl, rfl, rfl, rfl, rfl⟩

theorem decode_rows_90 :
    decode [0b10010000] = .ok (.sub_b, []) ∧ decode [0b10010001] = .ok (.sub_c, []) ∧ decode [0b10010010] = .ok (.sub_d, []) ∧
    decode [0b10010011] = .ok (.sub_e, []) ∧ decode [0b10010100] = .ok (.sub_h, []) ∧ decode [0b10010101] = .ok (.sub_l, []) ∧
    decode [0b10010110] = .ok (.sub_atHL, []) ∧ decode [0b10010111] = .ok (.sub_a, []) ∧ decode [0b10011000] = .ok (.sbc_a_b, []) ∧
    decode [0b10011001] = .ok (.sbc_a_c, []) ∧ decode [0b10011010] = .ok (.sbc_a_d, []) ∧ decode [0b10011011] = .ok (.sbc_a_e, []) ∧
    decode [0b10011100] = .ok (.sbc_a_h, []) ∧ decode [0b10011101] = .ok (.sbc_a_l, []) ∧ decode [0b10011110] = .ok (.sbc_a_atHL, []) ∧
    decode [0b10011111] = .ok (.sbc_a_a, []) :=
  ⟨rfl, rfl, rfl, rfl, rfl, rfl, rfl, rfl, rfl, rfl, rfl, rfl, rfl, rfl, rfl, rfl⟩

theorem decode_rows_A0 :
    decode [0b10100000] = .ok (.and_b, []) ∧ decode [0b10100001] = .ok (.and_c, []) ∧ decode [0b10100010] = .ok (.and_d, []) ∧
    decode [0b10100011] = .ok (.and_e, []) ∧ decode [0b10100100] = .ok (.and_h, []) ∧ decode [0b10100101] = .ok (.and_l, []) ∧
    decode [0b10100110] = .ok (.and_atHL, []) ∧ decode [0b10100111] = .ok (.and_a, []) ∧ decode [0b10101000] = .ok (.xor_b, []) ∧
    decode [0b10101001] = .ok (.xor_c, []) ∧ decode [0b10101010] = .ok (.xor_d, []) ∧ decode [0b10101011] = .ok (.xor_e, []) ∧
    decode [0b10101100] = .ok (.xor_h, []) ∧ decode [0b10101101] = .ok (.xor_l, []) ∧ decode [0b10101110] = .ok (.xor_atHL, []) ∧
    decode [0b10101111] = .ok (.xor_a, []) :=
  ⟨rfl, rfl, rfl, rfl, rfl, rfl, rfl, rfl, rfl, rfl, rfl, rfl, rfl, rfl, rfl, rfl⟩

theorem decode_rows_B0 :
    decode [0b10110000] = .ok (.or_b, []) ∧ decode [0b10110001] = .ok (.or_c, []) ∧ decode [0b10110010] = .ok (.or_d, []) ∧
    decode [0b10110011] = .ok (.or_e, []) ∧ decode [0b10110100] = .ok (.or_h, []) ∧ decode [0b10110101] = .ok (.or_l, []) ∧
    decode [0b10110110] = .ok (.or_atHL, []) ∧ decode [0b10110111] = .ok (.or_a, []) ∧ decode [0b10111000] = .ok (.cp_b, []) ∧
    decode [0b10111001] = .ok (.cp_c, []) ∧ decode [0b10111010] = .ok (.cp_d, []) ∧ decode [0b10111011] = .ok (.cp_e, []) ∧
    decode [0b10111100] = .ok (.cp_h, []) ∧ decode [0b10111101] = .ok (.cp_l, []) ∧ decode [0b10111110] = .ok (.cp_atHL, []) ∧
    decode [0b10111111] = .ok (.cp_a, []) :=
  ⟨rfl, rfl, rfl, rfl, rfl, rfl, rfl, rfl, rfl, rfl, rfl, rfl, rfl, rfl, rfl, rfl⟩

theorem decode_rows_C0 :
    decode [0b11000000] = .ok (.ret_nz, []) ∧ decode [0b11000001] = .ok (.pop_bc, []) ∧
    (∀ lo hi : Byte, decode [0b11000010, lo, hi] = .ok (.jp_nz_nn (wordOf hi lo), [])) ∧
    (∀ lo hi : Byte, decode [0b11000011, lo, hi] = .ok (.jp_nn (wordOf hi lo), [])) ∧
    (∀ lo hi : Byte, decode [0b11000100, lo, hi] = .ok (.call_nz_nn (wordOf hi lo), [])) ∧ decode [0b11000101] = .ok (.push_bc, []) ∧
    (∀ n : Byte, decode [0b11000110, n] = .ok (.add_a_n n, [])) ∧ decode [0b11000111] = .ok (.rst_00h, []) ∧
    decode [0b11001000] = .ok (.ret_z, []) ∧ decode [0b11001001] = .ok (.ret, []) ∧
    (∀ lo hi : Byte, decode [0b11001010, lo, hi] = .ok (.jp_z_nn (wordOf hi lo), [])) ∧ decode [0b11001011] = .ok (.prefixCb, []) ∧
    (∀ lo hi : Byte, decode [0b11001100, lo, hi] = .ok (.call_z_nn (wordOf hi lo), [])) ∧
    (∀ lo hi : Byte, decode [0b11001101, lo, hi] = .ok (.call_nn (wordOf hi lo), [])) ∧
    (∀ n : Byte, decode [0b11001110, n] = .ok (.adc_a_n n, [])) ∧ decode [0b11001111] = .ok (.rst_08h, []) :=
  ⟨rfl, rfl, fun _ _ => rfl, fun _ _ => rfl, fun _ _ => rfl, rfl, fun _ => rfl, rfl, rfl, rfl, fun _ _ => rfl, rfl, fun _ _ => rfl, fun _ _ => rfl, fun _ => rfl, rfl⟩

theorem decode_rows_D0 :
    decode [0b11010000] = .ok (.ret_nc, []) ∧ decode [0b11010001] = .ok (.pop_de, []) ∧
    (∀ lo hi : Byte, decode [0b11010010, lo, hi] = .ok (.jp_nc_nn (wordOf hi lo), [])) ∧ decode [0b11010011] = .ok (.undef_d3, []) ∧
    (∀ lo hi : Byte, decode [0b11010100, lo, hi] = .ok (.call_nc_nn (wordOf hi lo), [])) ∧ decode [0b11010101] = .ok (.push_de, []) ∧
    (∀ n : Byte, decode [0b11010110, n] = .ok (.sub_n n, [])) ∧ decode [0b11010111] = .ok (.rst_10h, []) ∧
    decode [0b11011000] = .ok (.ret_c, []) ∧ decode [0b11011001] = .ok (.reti, []) ∧
    (∀ lo hi : Byte, decode [0b11011010, lo, hi] = .ok (.jp_c_nn (wordOf hi lo), [])) ∧ decode [0b11011011] = .ok (.undef_db, []) ∧
    (∀ lo hi : Byte, decode [0b11011100, lo, hi] = .ok (.call_c_nn (wordOf hi lo), [])) ∧ decode [0b11011101] = .ok (.undef_dd, []) ∧
    (∀ n : Byte, decode [0b11011110, n] = .ok (.sbc_a_n n, [])) ∧ decode [0b11011111] = .ok (.rst_18h, []) :=
  ⟨rfl, rfl, fun _ _ => rfl, rfl, fun _ _ => rfl, rfl, fun _ => rfl, rfl, rfl, rfl, fun _ _ => rfl, rfl, fun _ _ => rfl, rfl, fun _ => rfl, rfl⟩

theorem decode_rows_E0 :
    (∀ n : Byte, decode [0b11100000, n] = .ok (.ldh_atN_a n, [])) ∧ decode [0b11100001] = .ok (.pop_hl, []) ∧
    decode [0b11100010] = .ok (.ldh_atC_a, []) ∧ decode [0b11100011] = .ok (.undef_e3, []) ∧ decode [0b11100100] = .ok (.undef_e4, []) ∧
    decode [0b11100101] = .ok (.push_hl, []) ∧ (∀ n : Byte, decode [0b11100110, n] = .ok (.and_n n, [])) ∧
    decode [0b11100111] = .ok (.rst_20h, []) ∧ (∀ e : Byte, decode [0b11101000, e] = .ok (.add_sp_e e, [])) ∧
    decode [0b11101001] = .ok (.jp_hl, []) ∧ (∀ lo hi : Byte, decode [0b11101010, lo, hi] = .ok (.ld_atNN_a (wordOf hi lo), [])) ∧
    decode [0b11101011] = .ok (.undef_eb, []) ∧ decode [0b11101100] = .ok (.undef_ec, []) ∧ decode [0b11101101] = .ok (.undef_ed, []) ∧
    (∀ n : Byte, decode [0b11101110, n] = .ok (.xor_n n, [])) ∧ decode [0b11101111] = .ok (.rst_28h, []) :=
  ⟨fun _ => rfl, rfl, rfl, rfl, rfl, rfl, fun _ => rfl, rfl, fun _ => rfl, rfl, fun _ _ => rfl, rfl, rfl, rfl, fun _ => rfl, rfl⟩

theorem decode_rows_F0 :
    (∀ n : Byte, decode [0b11110000, n] = .ok (.ldh_a_atN n, [])) ∧ decode [0b11110001] = .ok (.pop_af, []) ∧
    decode [0b11110010] = .ok (.ldh_a_atC, []) ∧ decode [0b11110011] = .ok (.di, []) ∧ decode [0b11110100] = .ok (.undef_f4, []) ∧
    decode [0b11110101] = .ok (.push_af, []) ∧ (∀ n : Byte, decode [0b11110110, n] = .ok (.or_n n, [])) ∧
    decode [0b11110111] = .ok (.rst_30h, []) ∧ (∀ e : Byte, decode [0b11111000, e] = .ok (.ld_hl_sp_e e, [])) ∧
    decode [0b11111001] = .ok (.ld_sp_hl, []) ∧ (∀ lo hi : Byte, decode [0b11111010, lo, hi] = .ok (.ld_a_atNN (wordOf hi lo), [])) ∧
    decode [0b11111011] = .ok (.ei, []) ∧ decode [0b11111100] = .ok (.undef_fc, []) ∧ decode [0b11111101] = .ok (.undef_fd, []) ∧
    (∀ n : Byte, decode [0b11111110, n] = .ok (.cp_n n, [])) ∧ decode [0b11111111] = .ok (.rst_38h, []) :=
  ⟨fun _ => rfl, rfl, rfl, rfl, rfl, rfl, fun _ => rfl, rfl, fun _ => rfl, rfl, fun _ _ => rfl, rfl, rfl, rfl, fun _ => rfl, rfl⟩

theorem decode_rows_CB_00 :
    decode [0b11001011, 0b00000000] = .ok (.rlc_b, []) ∧ decode [0b11001011, 0b00000001] = .ok (.rlc_c, []) ∧
    decode [0b11001011, 0b00000010] = .ok (.rlc_d, []) ∧ decode [0b11001011, 0b00000011] = .ok (.rlc_e, []) ∧
    decode [0b11001011, 0b00000100] = .ok (.rlc_h, []) ∧ decode [0b11001011, 0b00000101] = .ok (.rlc_l, []) ∧
    decode [0b11001011, 0b00000110] = .ok (.rlc_atHL, []) ∧ decode [0b11001011, 0b00000111] = .ok (.rlc_a, []) ∧
    decode [0b11001011, 0b00001000] = .ok (.rrc_b, []) ∧ decode [0b11001011, 0b00001001] = .ok (.rrc_c, []) ∧
    decode [0b11001011, 0b00001010] = .ok (.rrc_d, []) ∧ decode [0b11001011, 0b00001011] = .ok (.rrc_e, []) ∧
    decode [0b11001011, 0b00001100] = .ok (.rrc_h, []) ∧ decode [0b11001011, 0b00001101] = .ok (.rrc_l, []) ∧
    decode [0b11001011, 0b00001110] = .ok (.rrc_atHL, []) ∧ decode [0b11001011, 0b00001111] = .ok (.rrc_a, []) :=
  ⟨rfl, rfl, rfl, rfl, rfl, rfl, rfl, rfl, rfl, rfl, rfl, rfl, rfl, rfl, rfl, rfl⟩

theorem decode_rows_CB_10 :
    decode [0b11001011, 0b00010000] = .ok (.rl_b, []) ∧ decode [0b11001011, 0b00010001] = .ok (.rl_c, []) ∧
    decode [0b11001011, 0b00010010] = .ok (.rl_d, []) ∧ decode [0b11001011, 0b00010011] = .ok (.rl_e, []) ∧
    decode [0b11001011, 0b00010100] = .ok (.rl_h, []) ∧ decode [0b11001011, 0b00010101] = .ok (.rl_l, []) ∧
    decode [0b11001011, 0b00010110] = .ok (.rl_atHL, []) ∧ decode [0b11001011, 0b00010111] = .ok (.rl_a, []) ∧
    decode [0b11001011, 0b00011000] = .ok (.rr_b, []) ∧ decode [0b11001011, 0b00011001] = .ok (.rr_c, []) ∧
    decode [0b11001011, 0b00011010] = .ok (.rr_d, []) ∧ decode [0b11001011, 0b00011011] = .ok (.rr_e, []) ∧
    decode [0b11001011, 0b00011100] = .ok (.rr_h, []) ∧ decode [0b11001011, 0b00011101] = .ok (.rr_l, []) ∧
    decode [0b11001011, 0b00011110] = .ok (.rr_atHL, []) ∧ decode [0b11001011, 0b00011111] = .ok (.rr_a, []) :=
  ⟨rfl, rfl, rfl, rfl, rfl, rfl, rfl, rfl, rfl, rfl, rfl, rfl, rfl, rfl, rfl, rfl⟩

theorem decode_rows_CB_20 :
    decode [0b11001011, 0b00100000] = .ok (.sla_b, []) ∧ decode [0b11001011, 0b00100001] = .ok (.sla_c, []) ∧
    decode [0b11001011, 0b00100010] = .ok (.sla_d, []) ∧ decode [0b11001011, 0b00100011] = .ok (.sla_e, []) ∧
    decode [0b11001011, 0b00100100] = .ok (.sla_h, []) ∧ decode [0b11001011, 0b00100101] = .ok (.sla_l, []) ∧
    decode [0b11001011, 0b00100110] = .ok (.sla_atHL, []) ∧ decode [0b11001011, 0b00100111] = .ok (.sla_a, []) ∧
    decode [0b11001011, 0b00101000] = .ok (.sra_b, []) ∧ decode [0b11001011, 0b00101001] = .ok (.sra_c, []) ∧
    decode [0b11001011, 0b00101010] = .ok (.sra_d, []) ∧ decode [0b11001011, 0b00101011] = .ok (.sra_e, []) ∧
    decode [0b11001011, 0b00101100] = .ok (.sra_h, []) ∧ decode [0b11001011, 0b00101101] = .ok (.sra_l, []) ∧
    decode [0b11001011, 0b00101110] = .ok (.sra_atHL, []) ∧ decode [0b11001011, 0b00101111] = .ok (.sra_a, []) :=
  ⟨rfl, rfl, rfl, rfl, rfl, rfl, rfl, rfl, rfl, rfl, rfl, rfl, rfl, rfl, rfl, rfl⟩

theorem decode_rows_CB_30 :
    decode [0b11001011, 0b00110000] = .ok (.swap_b, []) ∧ decode [0b11001011, 0b00110001] = .ok (.swap_c, []) ∧
    decode [0b11001011, 0b00110010] = .ok (.swap_d, []) ∧ decode [0b11001011, 0b00110011] = .ok (.swap_e, []) ∧
    decode [0b11001011, 0b00110100] = .ok (.swap_h, []) ∧ decode [0b11001011, 0b00110101] = .ok (.swap_l, []) ∧
    decode [0b11001011, 0b00110110] = .ok (.swap_atHL, []) ∧ decode [0b11001011, 0b00110111] = .ok (.swap_a, []) ∧
    decode [0b11001011, 0b00111000] = .ok (.srl_b, []) ∧ decode [0b11001011, 0b00111001] = .ok (.srl_c, []) ∧
    decode [0b11001011, 0b00111010] = .ok (.srl_d, []) ∧ decode [0b11001011, 0b00111011] = .ok (.srl_e, []) ∧
    decode [0b11001011, 0b00111100] = .ok (.srl_h, []) ∧ decode [0b11001011, 0b00111101] = .ok (.srl_l, []) ∧
    decode [0b11001011, 0b00111110] = .ok (.srl_atHL, []) ∧ decode [0b11001011, 0b00111111] = .ok (.srl_a, []) :=
  ⟨rfl, rfl, rfl, rfl, rfl, rfl, rfl, rfl, rfl, rfl, rfl, rfl, rfl, rfl, rfl, rfl⟩

theorem decode_rows_CB_40 :
    decode [0b11001011, 0b01000000] = .ok (.bit_0_b, []) ∧ decode [0b11001011, 0b01000001] = .ok (.bit_0_c, []) ∧
    decode [0b11001011, 0b01000010] = .ok (.bit_0_d, []) ∧ decode [0b11001011, 0b01000011] = .ok (.bit_0_e, []) ∧
    decode [0b11001011, 0b01000100] = .ok (.bit_0_h, []) ∧ decode [0b11001011, 0b01000101] = .ok (.bit_0_l, []) ∧
    decode [0b11001011, 0b01000110] = .ok (.bit_0_atHL, []) ∧ decode [0b11001011, 0b01000111] = .ok (.bit_0_a, []) ∧
    decode [0b11001011, 0b01001000] = .ok (.bit_1_b, []) ∧ decode [0b11001011, 0b01001001] = .ok (.bit_1_c, []) ∧
    decode [0b11001011, 0b01001010] = .ok (.bit_1_d, []) ∧ decode [0b11001011, 0b01001011] = .ok (.bit_1_e, []) ∧
    decode [0b11001011, 0b01001100] = .ok (.bit_1_h, []) ∧ decode [0b11001011, 0b01001101] = .ok (.bit_1_l, []) ∧
    decode [0b11001011, 0b01001110] = .ok (.bit_1_atHL, []) ∧ decode [0b11001011, 0b01001111] = .ok (.bit_1_a, []) :=
  ⟨rfl, rfl, rfl, rfl, rfl, rfl, rfl, rfl, rfl, rfl, rfl, rfl, rfl, rfl, rfl, rfl⟩

theorem decode_rows_CB_50 :
    decode [0b11001011, 0b01010000] = .ok (.bit_2_b, []) ∧ decode [0b11001011, 0b01010001] = .ok (.bit_2_c, []) ∧
    decode [0b11001011, 0b01010010] = .ok (.bit_2_d, []) ∧ decode [0b11001011, 0b01010011] = .ok (.bit_2_e, []) ∧
    decode [0b11001011, 0b01010100] = .ok (.bit_2_h, []) ∧ decode [0b11001011, 0b01010101] = .ok (.bit_2_l, []) ∧
    decode [0b11001011, 0b01010110] = .ok (.bit_2_atHL, []) ∧ decode [0b11001011, 0b01010111] = .ok (.bit_2_a, []) ∧
    decode [0b11001011, 0b01011000] = .ok (.bit_3_b, []) ∧ decode [0b11001011, 0b01011001] = .ok (.bit_3_c, []) ∧
    decode [0b11001011, 0b01011010] = .ok (.bit_3_d, []) ∧ decode [0b11001011, 0b01011011] = .ok (.bit_3_e, []) ∧
    decode [0b11001011, 0b01011100] = .ok (.bit_3_h, []) ∧ decode [0b11001011, 0b01011101] = .ok (.bit_3_l, []) ∧
    decode [0b11001011, 0b01011110] = .ok (.bit_3_atHL, []) ∧ decode [0b11001011, 0b01011111] = .ok (.bit_3_a, []) :=
  ⟨rfl, rfl, rfl, rfl, rfl, rfl, rfl, rfl, rfl, rfl, rfl, rfl, rfl, rfl, rfl, rfl⟩

theorem decode_rows_CB_60 :
    decode [0b11001011, 0b01100000] = .ok (.bit_4_b, []) ∧ decode [0b11001011, 0b01100001] = .ok (.bit_4_c, []) ∧
    decode [0b11001011, 0b01100010] = .ok (.bit_4_d, []) ∧ decode [0b11001011, 0b01100011] = .ok (.bit_4_e, []) ∧
    decode [0b11001011, 0b01100100] = .ok (.bit_4_h, []) ∧ decode [0b11001011, 0b01100101] = .ok (.bit_4_l, []) ∧
    decode [0b11001011, 0b01100110] = .ok (.bit_4_atHL, []) ∧ decode [0b11001011, 0b01100111] = .ok (.bit_4_a, []) ∧
    decode [0b11001011, 0b01101000] = .ok (.bit_5_b, []) ∧ decode [0b11001011, 0b01101001] = .ok (.bit_5_c, []) ∧
    decode [0b11001011, 0b01101010] = .ok (.bit_5_d, []) ∧ decode [0b11001011, 0b01101011] = .ok (.bit_5_e, []) ∧
    decode [0b11001011, 0b01101100] = .ok (.bit_5_h, []) ∧ decode [0b11001011, 0b01101101] = .ok (.bit_5_l, []) ∧
    decode [0b11001011, 0b01101110] = .ok (.bit_5_atHL, []) ∧ decode [0b11001011, 0b01101111] = .ok (.bit_5_a, []) :=
  ⟨rfl, rfl, rfl, rfl, rfl, rfl, rfl, rfl, rfl, rfl, rfl, rfl, rfl, rfl, rfl, rfl⟩

theorem decode_rows_CB_70 :
    decode [0b11001011, 0b01110000] = .ok (.bit_6_b, []) ∧ decode [0b11001011, 0b01110001] = .ok (.bit_6_c, []) ∧
    decode [0b11001011, 0b01110010] = .ok (.bit_6_d, []) ∧ decode [0b11001011, 0b01110011] = .ok (.bit_6_e, []) ∧
    decode [0b11001011, 0b01110100] = .ok (.bit_6_h, []) ∧ decode [0b11001011, 0b01110101] = .ok (.bit_6_l, []) ∧
    decode [0b11001011, 0b01110110] = .ok (.bit_6_atHL, []) ∧ decode [0b11001011, 0b01110111] = .ok (.bit_6_a, []) ∧
    decode [0b11001011, 0b01111000] = .ok (.bit_7_b, []) ∧ decode [0b11001011, 0b01111001] = .ok (.bit_7_c, []) ∧
    decode [0b11001011, 0b01111010] = .ok (.bit_7_d, []) ∧ decode [0b11001011, 0b01111011] = .ok (.bit_7_e, []) ∧
    decode [0b11001011, 0b01111100] = .ok (.bit_7_h, []) ∧ decode [0b11001011, 0b01111101] = .ok (.bit_7_l, []) ∧
    decode [0b11001011, 0b01111110] = .ok (.bit_7_atHL, []) ∧ decode [0b11001011, 0b01111111] = .ok (.bit_7_a, []) :=
  ⟨rfl, rfl, rfl, rfl, rfl, rfl, rfl, rfl, rfl, rfl, rfl, rfl, rfl, rfl, rfl, rfl⟩

theorem decode_rows_CB_80 :
    decode [0b11001011, 0b10000000] = .ok (.res_0_b, []) ∧ decode [0b11001011, 0b10000001] = .ok (.res_0_c, []) ∧
    decode [0b11001011, 0b10000010] = .ok (.res_0_d, []) ∧ decode [0b11001011, 0b10000011] = .ok (.res_0_e, []) ∧
    decode [0b11001011, 0b10000100] = .ok (.res_0_h, []) ∧ decode [0b11001011, 0b10000101] = .ok (.res_0_l, []) ∧
    decode [0b11001011, 0b10000110] = .ok (.res_0_atHL, []) ∧ decode [0b11001011, 0b10000111] = .ok (.res_0_a, []) ∧
    decode [0b11001011, 0b10001000] = .ok (.res_1_b, []) ∧ decode [0b11001011, 0b10001001] = .ok (.res_1_c, []) ∧
    decode [0b11001011, 0b10001010] = .ok (.res_1_d, []) ∧ decode [0b11001011, 0b10001011] = .ok (.res_1_e, []) ∧
    decode [0b11001011, 0b10001100] = .ok (.res_1_h, []) ∧ decode [0b11001011, 0b10001101] = .ok (.res_1_l, []) ∧
    decode [0b11001011, 0b10001110] = .ok (.res_1_atHL, []) ∧ decode [0b11001011, 0b10001111] = .ok (.res_1_a, []) :=
  ⟨rfl, rfl, rfl, rfl, rfl, rfl, rfl, rfl, rfl, rfl, rfl, rfl, rfl, rfl, rfl, rfl⟩

theorem decode_rows_CB_90 :
    decode [0b11001011, 0b10010000] = .ok (.res_2_b, []) ∧ decode [0b11001011, 0b10010001] = .ok (.res_2_c, []) ∧
    decode [0b11001011, 0b10010010] = .ok (.res_2_d, []) ∧ decode [0b11001011, 0b10010011] = .ok (.res_2_e, []) ∧
    decode [0b11001011, 0b10010100] = .ok (.res_2_h, []) ∧ decode [0b11001011, 0b10010101] = .ok (.res_2_l, []) ∧
    decode [0b11001011, 0b10010110] = .ok (.res_2_atHL, []) ∧ decode [0b11001011, 0b10010111] = .ok (.res_2_a, []) ∧
    decode [0b11001011, 0b10011000] = .ok (.res_3_b, []) ∧ decode [0b11001011, 0b10011001] = .ok (.res_3_c, []) ∧
    decode [0b11001011, 0b10011010] = .ok (.res_3_d, []) ∧ decode [0b11001011, 0b10011011] = .ok (.res_3_e, []) ∧
    decode [0b11001011, 0b10011100] = .ok (.res_3_h, []) ∧ decode [0b11001011, 0b10011101] = .ok (.res_3_l, []) ∧
    decode [0b11001011, 0b10011110] = .ok (.res_3_atHL, []) ∧ decode [0b11001011, 0b10011111] = .ok (.res_3_a, []) :=
  ⟨rfl, rfl, rfl, rfl, rfl, rfl, rfl, rfl, rfl, rfl, rfl, rfl, rfl, rfl, rfl, rfl⟩

theorem decode_rows_CB_A0 :
    decode [0b11001011, 0b10100000] = .ok (.res_4_b, []) ∧ decode [0b11001011, 0b10100001] = .ok (.res_4_c, []) ∧
    decode [0b11001011, 0b10100010] = .ok (.res_4_d, []) ∧ decode [0b11001011, 0b10100011] = .ok (.res_4_e, []) ∧
    decode [0b11001011, 0b10100100] = .ok (.res_4_h, []) ∧ decode [0b11001011, 0b10100101] = .ok (.res_4_l, []) ∧
    decode [0b11001011, 0b10100110] = .ok (.res_4_atHL, []) ∧ decode [0b11001011, 0b10100111] = .ok (.res_4_a, []) ∧
    decode [0b11001011, 0b10101000] = .ok (.res_5_b, []) ∧ decode [0b11001011, 0b10101001] = .ok (.res_5_c, []) ∧
    decode [0b11001011, 0b10101010] = .ok (.res_5_d, []) ∧ decode [0b11001011, 0b10101011] = .ok (.res_5_e, []) ∧
    decode [0b11001011, 0b10101100] = .ok (.res_5_h, []) ∧ decode [0b11001011, 0b10101101] = .ok (.res_5_l, []) ∧
    decode [0b11001011, 0b10101110] = .ok (.res_5_atHL, []) ∧ decode [0b11001011, 0b10101111] = .ok (.res_5_a, []) :=
  ⟨rfl, rfl, rfl, rfl, rfl, rfl, rfl, rfl, rfl, rfl, rfl, rfl, rfl, rfl, rfl, rfl⟩

theorem decode_rows_CB_B0 :
    decode [0b11001011, 0b10110000] = .ok (.res_6_b, []) ∧ decode [0b11001011, 0b10110001] = .ok (.res_6_c, []) ∧
    decode [0b11001011, 0b10110010] = .ok (.res_6_d, []) ∧ decode [0b11001011, 0b10110011] = .ok (.res_6_e, []) ∧
    decode [0b11001011, 0b10110100] = .ok (.res_6_h, []) ∧ decode [0b11001011, 0b10110101] = .ok (.res_6_l, []) ∧
    decode [0b11001011, 0b10110110] = .ok (.res_6_atHL, []) ∧ decode [0b11001011, 0b10110111] = .ok (.res_6_a, []) ∧
    decode [0b11001011, 0b10111000] = .ok (.res_7_b, []) ∧ decode [0b11001011, 0b10111001] = .ok (.res_7_c, []) ∧
    decode [0b11001011, 0b10111010] = .ok (.res_7_d, []) ∧ decode [0b11001011, 0b10111011] = .ok (.res_7_e, []) ∧
    decode [0b11001011, 0b10111100] = .ok (.res_7_h, []) ∧ decode [0b11001011, 0b10111101] = .ok (.res_7_l, []) ∧
    decode [0b11001011, 0b10111110] = .ok (.res_7_atHL, []) ∧ decode [0b11001011, 0b10111111] = .ok (.res_7_a, []) :=
  ⟨rfl, rfl, rfl, rfl, rfl, rfl, rfl, rfl, rfl, rfl, rfl, rfl, rfl, rfl, rfl, rfl⟩

theorem decode_rows_CB_C0 :
    decode [0b11001011, 0b11000000] = .ok (.set_0_b, []) ∧ decode [0b11001011, 0b11000001] = .ok (.set_0_c, []) ∧
    decode [0b11001011, 0b11000010] = .ok (.set_0_d, []) ∧ decode [0b11001011, 0b11000011] = .ok (.set_0_e, []) ∧
    decode [0b11001011, 0b11000100] = .ok (.set_0_h, []) ∧ decode [0b11001011, 0b11000101] = .ok (.set_0_l, []) ∧
    decode [0b11001011, 0b11000110] = .ok (.set_0_atHL, []) ∧ decode [0b11001011, 0b11000111] = .ok (.set_0_a, []) ∧
    decode [0b11001011, 0b11001000] = .ok (.set_1_b, []) ∧ decode [0b11001011, 0b11001001] = .ok (.set_1_c, []) ∧
    decode [0b11001011, 0b11001010] = .ok (.set_1_d, []) ∧ decode [0b11001011, 0b11001011] = .ok (.set_1_e, []) ∧
    decode [0b11001011, 0b11001100] = .ok (.set_1_h, []) ∧ decode [0b11001011, 0b11001101] = .ok (.set_1_l, []) ∧
    decode [0b11001011, 0b11001110] = .ok (.set_1_atHL, []) ∧ decode [0b11001011, 0b11001111] = .ok (.set_1_a, []) :=
  ⟨rfl, rfl, rfl, rfl, rfl, rfl, rfl, rfl, rfl, rfl, rfl, rfl, rfl, rfl, rfl, rfl⟩

theorem decode_rows_CB_D0 :
    decode [0b11001011, 0b11010000] = .ok (.set_2_b, []) ∧ decode [0b11001011, 0b11010001] = .ok (.set_2_c, []) ∧
    decode [0b11001011, 0b11010010] = .ok (.set_2_d, []) ∧ decode [0b11001011, 0b11010011] = .ok (.set_2_e, []) ∧
    decode [0b11001011, 0b11010100] = .ok (.set_2_h, []) ∧ decode [0b11001011, 0b11010101] = .ok (.set_2_l, []) ∧
    decode [0b11001011, 0b11010110] = .ok (.set_2_atHL, []) ∧ decode [0b11001011, 0b11010111] = .ok (.set_2_a, []) ∧
    decode [0b11001011, 0b11011000] = .ok (.set_3_b, []) ∧ decode [0b11001011, 0b11011001] = .ok (.set_3_c, []) ∧
    decode [0b11001011, 0b11011010] = .ok (.set_3_d, []) ∧ decode [0b11001011, 0b11011011] = .ok (.set_3_e, []) ∧
    decode [0b11001011, 0b11011100] = .ok (.set_3_h, []) ∧ decode [0b11001011, 0b11011101] = .ok (.set_3_l, []) ∧
    decode [0b11001011, 0b11011110] = .ok (.set_3_atHL, []) ∧ decode [0b11001011, 0b11011111] = .ok (.set_3_a, []) :=
  ⟨rfl, rfl, rfl, rfl, rfl, rfl, rfl, rfl, rfl, rfl, rfl, rfl, rfl, rfl, rfl, rfl⟩

theorem decode_rows_CB_E0 :
    decode [0b11001011, 0b11100000] = .ok (.set_4_b, []) ∧ decode [0b11001011, 0b11100001] = .ok (.set_4_c, []) ∧
    decode [0b11001011, 0b11100010] = .ok (.set_4_d, []) ∧ decode [0b11001011, 0b11100011] = .ok (.set_4_e, []) ∧
    decode [0b11001011, 0b11100100] = .ok (.set_4_h, []) ∧ decode [0b11001011, 0b11100101] = .ok (.set_4_l, []) ∧
    decode [0b11001011, 0b11100110] = .ok (.set_4_atHL, []) ∧ decode [0b11001011, 0b11100111] = .ok (.set_4_a, []) ∧
    decode [0b11001011, 0b11101000] = .ok (.set_5_b, []) ∧ decode [0b11001011, 0b11101001] = .ok (.set_5_c, []) ∧
    decode [0b11001011, 0b11101010] = .ok (.set_5_d, []) ∧ decode [0b11001011, 0b11101011] = .ok (.set_5_e, []) ∧
    decode [0b11001011, 0b11101100] = .ok (.set_5_h, []) ∧ decode [0b11001011, 0b11101101] = .ok (.set_5_l, []) ∧
    decode [0b11001011, 0b11101110] = .ok (.set_5_atHL, []) ∧ decode [0b11001011, 0b11101111] = .ok (.set_5_a, []) :=
  ⟨rfl, rfl, rfl, rfl, rfl, rfl, rfl, rfl, rfl, rfl, rfl, rfl, rfl, rfl, rfl, rfl⟩

theorem decode_rows_CB_F0 :
    decode [0b11001011, 0b11110000] = .ok (.set_6_b, []) ∧ decode [0b11001011, 0b11110001] = .ok (.set_6_c, []) ∧
    decode [0b11001011, 0b11110010] = .ok (.set_6_d, []) ∧ decode [0b11001011, 0b11110011] = .ok (.set_6_e, []) ∧
    decode [0b11001011, 0b11110100] = .ok (.set_6_h, []) ∧ decode [0b11001011, 0b11110101] = .ok (.set_6_l, []) ∧
    decode [0b11001011, 0b11110110] = .ok (.set_6_atHL, []) ∧ decode [0b11001011, 0b11110111] = .ok (.set_6_a, []) ∧
    decode [0b11001011, 0b11111000] = .ok (.set_7_b, []) ∧ decode [0b11001011, 0b11111001] = .ok (.set_7_c, []) ∧
    decode [0b11001011, 0b11111010] = .ok (.set_7_d, []) ∧ decode [0b11001011, 0b11111011] = .ok (.set_7_e, []) ∧
    decode [0b11001011, 0b11111100] = .ok (.set_7_h, []) ∧ decode [0b11001011, 0b11111101] = .ok (.set_7_l, []) ∧
    decode [0b11001011, 0b11111110] = .ok (.set_7_atHL, []) ∧ decode [0b11001011, 0b11111111] = .ok (.set_7_a, []) :=
  ⟨rfl, rfl, rfl, rfl, rfl, rfl, rfl, rfl, rfl, rfl, rfl, rfl, rfl, rfl, rfl, rfl⟩

end Sys2Proof
end

