-- ==== Sys2Proof/Laws/Families.lean ====
section
/-! SUPPORT. The families of instructions as a case principle: what holds of every member of every family holds of every instruction. -/

namespace Sys2Proof

/-- Every instruction is a member of one of the families of 30_encoding R132 and R133, or one of the single rows. -/
theorem Instr.family_cases {P : Instr → Prop}
    (ldRegReg : ∀ dst src, P (.ldRegReg dst src))
    (ldRegImm : ∀ r n, P (.ldRegImm r n))
    (ldRegAtHL : ∀ r, P (.ldRegAtHL r))
    (ldAtHLReg : ∀ r, P (.ldAtHLReg r))
    (alu : ∀ op src, P (.alu op src))
    (aluImm : ∀ op n, P (.aluImm op n))
    (incOperand : ∀ t, P (.incOperand t))
    (decOperand : ∀ t, P (.decOperand t))
    (ldPairImm : ∀ p nn, P (.ldPairImm p nn))
    (addHL : ∀ p, P (.addHL p))
    (incPair : ∀ p, P (.incPair p))
    (decPair : ∀ p, P (.decPair p))
    (push : ∀ p, P (.push p))
    (pop : ∀ p, P (.pop p))
    (jpCond : ∀ cc nn, P (.jpCond cc nn))
    (jrCond : ∀ cc e, P (.jrCond cc e))
    (callCond : ∀ cc nn, P (.callCond cc nn))
    (retCond : ∀ cc, P (.retCond cc))
    (rst : ∀ t, P (.rst t))
    (shift : ∀ op t, P (.shift op t))
    (bit : ∀ b t, P (.bit b t))
    (res : ∀ b t, P (.res b t))
    (set : ∀ b t, P (.set b t))
    (h_nop : P .nop)
    (h_ld_atBC_a : P .ld_atBC_a)
    (h_rlca : P .rlca)
    (h_ld_atNN_sp : ∀ nn, P (.ld_atNN_sp nn))
    (h_ld_a_atBC : P .ld_a_atBC)
    (h_rrca : P .rrca)
    (h_stop : ∀ x, P (.stop x))
    (h_ld_atDE_a : P .ld_atDE_a)
    (h_rla : P .rla)
    (h_jr_e : ∀ e, P (.jr_e e))
    (h_ld_a_atDE : P .ld_a_atDE)
    (h_rra : P .rra)
    (h_ld_atHLinc_a : P .ld_atHLinc_a)
    (h_daa : P .daa)
    (h_ld_a_atHLinc : P .ld_a_atHLinc)
    (h_cpl : P .cpl)
    (h_ld_atHLdec_a : P .ld_atHLdec_a)
    (h_ld_atHL_n : ∀ n, P (.ld_atHL_n n))
    (h_scf : P .scf)
    (h_ld_a_atHLdec : P .ld_a_atHLdec)
    (h_ccf : P .ccf)
    (h_halt : P .halt)
    (h_jp_nn : ∀ nn, P (.jp_nn nn))
    (h_ret : P .ret)
    (h_prefixCb : P .prefixCb)
    (h_call_nn : ∀ nn, P (.call_nn nn))
    (h_undef_d3 : P .undef_d3)
    (h_reti : P .reti)
    (h_undef_db : P .undef_db)
    (h_undef_dd : P .undef_dd)
    (h_ldh_atN_a : ∀ n, P (.ldh_atN_a n))
    (h_ldh_atC_a : P .ldh_atC_a)
    (h_undef_e3 : P .undef_e3)
    (h_undef_e4 : P .undef_e4)
    (h_add_sp_e : ∀ e, P (.add_sp_e e))
    (h_jp_hl : P .jp_hl)
    (h_ld_atNN_a : ∀ nn, P (.ld_atNN_a nn))
    (h_undef_eb : P .undef_eb)
    (h_undef_ec : P .undef_ec)
    (h_undef_ed : P .undef_ed)
    (h_ldh_a_atN : ∀ n, P (.ldh_a_atN n))
    (h_ldh_a_atC : P .ldh_a_atC)
    (h_di : P .di)
    (h_undef_f4 : P .undef_f4)
    (h_ld_hl_sp_e : ∀ e, P (.ld_hl_sp_e e))
    (h_ld_sp_hl : P .ld_sp_hl)
    (h_ld_a_atNN : ∀ nn, P (.ld_a_atNN nn))
    (h_ei : P .ei)
    (h_undef_fc : P .undef_fc)
    (h_undef_fd : P .undef_fd)
    (i : Instr) : P i := by
  cases i with
  | nop => exact h_nop
  | ld_bc_nn nn => exact ldPairImm .bc nn
  | ld_atBC_a => exact h_ld_atBC_a
  | inc_bc => exact incPair .bc
  | inc_b => exact incOperand (.reg .b)
  | dec_b => exact decOperand (.reg .b)
  | ld_b_n n => exact ldRegImm .b n
  | rlca => exact h_rlca
  | ld_atNN_sp nn => exact h_ld_atNN_sp nn
  | add_hl_bc => exact addHL .bc
  | ld_a_atBC => exact h_ld_a_atBC
  | dec_bc => exact decPair .bc
  | inc_c => exact incOperand (.reg .c)
  | dec_c => exact decOperand (.reg .c)
  | ld_c_n n => exact ldRegImm .c n
  | rrca => exact h_rrca
  | stop x => exact h_stop x
  | ld_de_nn nn => exact ldPairImm .de nn
  | ld_atDE_a => exact h_ld_atDE_a
  | inc_de => exact incPair .de
  | inc_d => exact incOperand (.reg .d)
  | dec_d => exact decOperand (.reg .d)
  | ld_d_n n => exact ldRegImm .d n
  | rla => exact h_rla
  | jr_e e => exact h_jr_e e
  | add_hl_de => exact addHL .de
  | ld_a_atDE => exact h_ld_a_atDE
  | dec_de => exact decPair .de
  | inc_e => exact incOperand (.reg .e)
  | dec_e => exact decOperand (.reg .e)
  | ld_e_n n => exact ldRegImm .e n
  | rra => exact h_rra
  | jr_nz_e e => exact jrCond .nz e
  | ld_hl_nn nn => exact ldPairImm .hl nn
  | ld_atHLinc_a => exact h_ld_atHLinc_a
  | inc_hl => exact incPair .hl
  | inc_h => exact incOperand (.reg .h)
  | dec_h => exact decOperand (.reg .h)
  | ld_h_n n => exact ldRegImm .h n
  | daa => exact h_daa
  | jr_z_e e => exact jrCond .z e
  | add_hl_hl => exact addHL .hl
  | ld_a_atHLinc => exact h_ld_a_atHLinc
  | dec_hl => exact decPair .hl
  | inc_l => exact incOperand (.reg .l)
  | dec_l => exact decOperand (.reg .l)
  | ld_l_n n => exact ldRegImm .l n
  | cpl => exact h_cpl
  | jr_nc_e e => exact jrCond .nc e
  | ld_sp_nn nn => exact ldPairImm .sp nn
  | ld_atHLdec_a => exact h_ld_atHLdec_a
  | inc_sp => exact incPair .sp
  | inc_atHL => exact incOperand .atHL
  | dec_atHL => exact decOperand .atHL
  | ld_atHL_n n => exact h_ld_atHL_n n
  | scf => exact h_scf
  | jr_c_e e => exact jrCond .c e
  | add_hl_sp => exact addHL .sp
  | ld_a_atHLdec => exact h_ld_a_atHLdec
  | dec_sp => exact decPair .sp
  | inc_a => exact incOperand (.reg .a)
  | dec_a => exact decOperand (.reg .a)
  | ld_a_n n => exact ldRegImm .a n
  | ccf => exact h_ccf
  | ld_b_b => exact ldRegReg .b .b
  | ld_b_c => exact ldRegReg .b .c
  | ld_b_d => exact ldRegReg .b .d
  | ld_b_e => exact ldRegReg .b .e
  | ld_b_h => exact ldRegReg .b .h
  | ld_b_l => exact ldRegReg .b .l
  | ld_b_atHL => exact ldRegAtHL .b
  | ld_b_a => exact ldRegReg .b .a
  | ld_c_b => exact ldRegReg .c .b
  | ld_c_c => exact ldRegReg .c .c
  | ld_c_d => exact ldRegReg .c .d
  | ld_c_e => exact ldRegReg .c .e
  | ld_c_h => exact ldRegReg .c .h
  | ld_c_l => exact ldRegReg .c .l
  | ld_c_atHL => exact ldRegAtHL .c
  | ld_c_a => exact ldRegReg .c .a
  | ld_d_b => exact ldRegReg .d .b
  | ld_d_c => exact ldRegReg .d .c
  | ld_d_d => exact ldRegReg .d .d
  | ld_d_e => exact ldRegReg .d .e
  | ld_d_h => exact ldRegReg .d .h
  | ld_d_l => exact ldRegReg .d .l
  | ld_d_atHL => exact ldRegAtHL .d
  | ld_d_a => exact ldRegReg .d .a
  | ld_e_b => exact ldRegReg .e .b
  | ld_e_c => exact ldRegReg .e .c
  | ld_e_d => exact ldRegReg .e .d
  | ld_e_e => exact ldRegReg .e .e
  | ld_e_h => exact ldRegReg .e .h
  | ld_e_l => exact ldRegReg .e .l
  | ld_e_atHL => exact ldRegAtHL .e
  | ld_e_a => exact ldRegReg .e .a
  | ld_h_b => exact ldRegReg .h .b
  | ld_h_c => exact ldRegReg .h .c
  | ld_h_d => exact ldRegReg .h .d
  | ld_h_e => exact ldRegReg .h .e
  | ld_h_h => exact ldRegReg .h .h
  | ld_h_l => exact ldRegReg .h .l
  | ld_h_atHL => exact ldRegAtHL .h
  | ld_h_a => exact ldRegReg .h .a
  | ld_l_b => exact ldRegReg .l .b
  | ld_l_c => exact ldRegReg .l .c
  | ld_l_d => exact ldRegReg .l .d
  | ld_l_e => exact ldRegReg .l .e
  | ld_l_h => exact ldRegReg .l .h
  | ld_l_l => exact ldRegReg .l .l
  | ld_l_atHL => exact ldRegAtHL .l
  | ld_l_a => exact ldRegReg .l .a
  | ld_atHL_b => exact ldAtHLReg .b
  | ld_atHL_c => exact ldAtHLReg .c
  | ld_atHL_d => exact ldAtHLReg .d
  | ld_atHL_e => exact ldAtHLReg .e
  | ld_atHL_h => exact ldAtHLReg .h
  | ld_atHL_l => exact ldAtHLReg .l
  | halt => exact h_halt
  | ld_atHL_a => exact ldAtHLReg .a
  | ld_a_b => exact ldRegReg .a .b
  | ld_a_c => exact ldRegReg .a .c
  | ld_a_d => exact ldRegReg .a .d
  | ld_a_e => exact ldRegReg .a .e
  | ld_a_h => exact ldRegReg .a .h
  | ld_a_l => exact ldRegReg .a .l
  | ld_a_atHL => exact ldRegAtHL .a
  | ld_a_a => exact ldRegReg .a .a
  | add_a_b => exact alu .add (.reg .b)
  | add_a_c => exact alu .add (.reg .c)
  | add_a_d => exact alu .add (.reg .d)
  | add_a_e => exact alu .add (.reg .e)
  | add_a_h => exact alu .add (.reg .h)
  | add_a_l => exact alu .add (.reg .l)
  | add_a_atHL => exact alu .add .atHL
  | add_a_a => exact alu .add (.reg .a)
  | adc_a_b => exact alu .adc (.reg .b)
  | adc_a_c => exact alu .adc (.reg .c)
  | adc_a_d => exact alu .adc (.reg .d)
  | adc_a_e => exact alu .adc (.reg .e)
  | adc_a_h => exact alu .adc (.reg .h)
  | adc_a_l => exact alu .adc (.reg .l)
  | adc_a_atHL => exact alu .adc .atHL
  | adc_a_a => exact alu .adc (.reg .a)
  | sub_b => exact alu .sub (.reg .b)
  | sub_c => exact alu .sub (.reg .c)
  | sub_d => exact alu .sub (.reg .d)
  | sub_e => exact alu .sub (.reg .e)
  | sub_h => exact alu .sub (.reg .h)
  | sub_l => exact alu .sub (.reg .l)
  | sub_atHL => exact alu .sub .atHL
  | sub_a => exact alu .sub (.reg .a)
  | sbc_a_b => exact alu .sbc (.reg .b)
  | sbc_a_c => exact alu .sbc (.reg .c)
  | sbc_a_d => exact alu .sbc (.reg .d)
  | sbc_a_e => exact alu .sbc (.reg .e)
  | sbc_a_h => exact alu .sbc (.reg .h)
  | sbc_a_l => exact alu .sbc (.reg .l)
  | sbc_a_atHL => exact alu .sbc .atHL
  | sbc_a_a => exact alu .sbc (.reg .a)
  | and_b => exact alu .and (.reg .b)
  | and_c => exact alu .and (.reg .c)
  | and_d => exact alu .and (.reg .d)
  | and_e => exact alu .and (.reg .e)
  | and_h => exact alu .and (.reg .h)
  | and_l => exact alu .and (.reg .l)
  | and_atHL => exact alu .and .atHL
  | and_a => exact alu .and (.reg .a)
  | xor_b => exact alu .xor (.reg .b)
  | xor_c => exact alu .xor (.reg .c)
  | xor_d => exact alu .xor (.reg .d)
  | xor_e => exact alu .xor (.reg .e)
  | xor_h => exact alu .xor (.reg .h)
  | xor_l => exact alu .xor (.reg .l)
  | xor_atHL => exact alu .xor .atHL
  | xor_a => exact alu .xor (.reg .a)
  | or_b => exact alu .or (.reg .b)
  | or_c => exact alu .or (.reg .c)
  | or_d => exact alu .or (.reg .d)
  | or_e => exact alu .or (.reg .e)
  | or_h => exact alu .or (.reg .h)
  | or_l => exact alu .or (.reg .l)
  | or_atHL => exact alu .or .atHL
  | or_a => exact alu .or (.reg .a)
  | cp_b => exact alu .cp (.reg .b)
  | cp_c => exact alu .cp (.reg .c)
  | cp_d => exact alu .cp (.reg .d)
  | cp_e => exact alu .cp (.reg .e)
  | cp_h => exact alu .cp (.reg .h)
  | cp_l => exact alu .cp (.reg .l)
  | cp_atHL => exact alu .cp .atHL
  | cp_a => exact alu .cp (.reg .a)
  | ret_nz => exact retCond .nz
  | pop_bc => exact pop .bc
  | jp_nz_nn nn => exact jpCond .nz nn
  | jp_nn nn => exact h_jp_nn nn
  | call_nz_nn nn => exact callCond .nz nn
  | push_bc => exact push .bc
  | add_a_n n => exact aluImm .add n
  | rst_00h => exact rst 0
  | ret_z => exact retCond .z
  | ret => exact h_ret
  | jp_z_nn nn => exact jpCond .z nn
  | prefixCb => exact h_prefixCb
  | call_z_nn nn => exact callCond .z nn
  | call_nn nn => exact h_call_nn nn
  | adc_a_n n => exact aluImm .adc n
  | rst_08h => exact rst 1
  | ret_nc => exact retCond .nc
  | pop_de => exact pop .de
  | jp_nc_nn nn => exact jpCond .nc nn
  | undef_d3 => exact h_undef_d3
  | call_nc_nn nn => exact callCond .nc nn
  | push_de => exact push .de
  | sub_n n => exact aluImm .sub n
  | rst_10h => exact rst 2
  | ret_c => exact retCond .c
  | reti => exact h_reti
  | jp_c_nn nn => exact jpCond .c nn
  | undef_db => exact h_undef_db
  | call_c_nn nn => exact callCond .c nn
  | undef_dd => exact h_undef_dd
  | sbc_a_n n => exact aluImm .sbc n
  | rst_18h => exact rst 3
  | ldh_atN_a n => exact h_ldh_atN_a n
  | pop_hl => exact pop .hl
  | ldh_atC_a => exact h_ldh_atC_a
  | undef_e3 => exact h_undef_e3
  | undef_e4 => exact h_undef_e4
  | push_hl => exact push .hl
  | and_n n => exact aluImm .and n
  | rst_20h => exact rst 4
  | add_sp_e e => exact h_add_sp_e e
  | jp_hl => exact h_jp_hl
  | ld_atNN_a nn => exact h_ld_atNN_a nn
  | undef_eb => exact h_undef_eb
  | undef_ec => exact h_undef_ec
  | undef_ed => exact h_undef_ed
  | xor_n n => exact aluImm .xor n
  | rst_28h => exact rst 5
  | ldh_a_atN n => exact h_ldh_a_atN n
  | pop_af => exact pop .af
  | ldh_a_atC => exact h_ldh_a_atC
  | di => exact h_di
  | undef_f4 => exact h_undef_f4
  | push_af => exact push .af
  | or_n n => exact aluImm .or n
  | rst_30h => exact rst 6
  | ld_hl_sp_e e => exact h_ld_hl_sp_e e
  | ld_sp_hl => exact h_ld_sp_hl
  | ld_a_atNN nn => exact h_ld_a_atNN nn
  | ei => exact h_ei
  | undef_fc => exact h_undef_fc
  | undef_fd => exact h_undef_fd
  | cp_n n => exact aluImm .cp n
  | rst_38h => exact rst 7
  | rlc_b => exact shift .rlc (.reg .b)
  | rlc_c => exact shift .rlc (.reg .c)
  | rlc_d => exact shift .rlc (.reg .d)
  | rlc_e => exact shift .rlc (.reg .e)
  | rlc_h => exact shift .rlc (.reg .h)
  | rlc_l => exact shift .rlc (.reg .l)
  | rlc_atHL => exact shift .rlc .atHL
  | rlc_a => exact shift .rlc (.reg .a)
  | rrc_b => exact shift .rrc (.reg .b)
  | rrc_c => exact shift .rrc (.reg .c)
  | rrc_d => exact shift .rrc (.reg .d)
  | rrc_e => exact shift .rrc (.reg .e)
  | rrc_h => exact shift .rrc (.reg .h)
  | rrc_l => exact shift .rrc (.reg .l)
  | rrc_atHL => exact shift .rrc .atHL
  | rrc_a => exact shift .rrc (.reg .a)
  | rl_b => exact shift .rl (.reg .b)
  | rl_c => exact shift .rl (.reg .c)
  | rl_d => exact shift .rl (.reg .d)
  | rl_e => exact shift .rl (.reg .e)
  | rl_h => exact shift .rl (.reg .h)
  | rl_l => exact shift .rl (.reg .l)
  | rl_atHL => exact shift .rl .atHL
  | rl_a => exact shift .rl (.reg .a)
  | rr_b => exact shift .rr (.reg .b)
  | rr_c => exact shift .rr (.reg .c)
  | rr_d => exact shift .rr (.reg .d)
  | rr_e => exact shift .rr (.reg .e)
  | rr_h => exact shift .rr (.reg .h)
  | rr_l => exact shift .rr (.reg .l)
  | rr_atHL => exact shift .rr .atHL
  | rr_a => exact shift .rr (.reg .a)
  | sla_b => exact shift .sla (.reg .b)
  | sla_c => exact shift .sla (.reg .c)
  | sla_d => exact shift .sla (.reg .d)
  | sla_e => exact shift .sla (.reg .e)
  | sla_h => exact shift .sla (.reg .h)
  | sla_l => exact shift .sla (.reg .l)
  | sla_atHL => exact shift .sla .atHL
  | sla_a => exact shift .sla (.reg .a)
  | sra_b => exact shift .sra (.reg .b)
  | sra_c => exact shift .sra (.reg .c)
  | sra_d => exact shift .sra (.reg .d)
  | sra_e => exact shift .sra (.reg .e)
  | sra_h => exact shift .sra (.reg .h)
  | sra_l => exact shift .sra (.reg .l)
  | sra_atHL => exact shift .sra .atHL
  | sra_a => exact shift .sra (.reg .a)
  | swap_b => exact shift .swap (.reg .b)
  | swap_c => exact shift .swap (.reg .c)
  | swap_d => exact shift .swap (.reg .d)
  | swap_e => exact shift .swap (.reg .e)
  | swap_h => exact shift .swap (.reg .h)
  | swap_l => exact shift .swap (.reg .l)
  | swap_atHL => exact shift .swap .atHL
  | swap_a => exact shift .swap (.reg .a)
  | srl_b => exact shift .srl (.reg .b)
  | srl_c => exact shift .srl (.reg .c)
  | srl_d => exact shift .srl (.reg .d)
  | srl_e => exact shift .srl (.reg .e)
  | srl_h => exact shift .srl (.reg .h)
  | srl_l => exact shift .srl (.reg .l)
  | srl_atHL => exact shift .srl .atHL
  | srl_a => exact shift .srl (.reg .a)
  | bit_0_b => exact bit 0 (.reg .b)
  | bit_0_c => exact bit 0 (.reg .c)
  | bit_0_d => exact bit 0 (.reg .d)
  | bit_0_e => exact bit 0 (.reg .e)
  | bit_0_h => exact bit 0 (.reg .h)
  | bit_0_l => exact bit 0 (.reg .l)
  | bit_0_atHL => exact bit 0 .atHL
  | bit_0_a => exact bit 0 (.reg .a)
  | bit_1_b => exact bit 1 (.reg .b)
  | bit_1_c => exact bit 1 (.reg .c)
  | bit_1_d => exact bit 1 (.reg .d)
  | bit_1_e => exact bit 1 (.reg .e)
  | bit_1_h => exact bit 1 (.reg .h)
  | bit_1_l => exact bit 1 (.reg .l)
  | bit_1_atHL => exact bit 1 .atHL
  | bit_1_a => exact bit 1 (.reg .a)
  | bit_2_b => exact bit 2 (.reg .b)
  | bit_2_c => exact bit 2 (.reg .c)
  | bit_2_d => exact bit 2 (.reg .d)
  | bit_2_e => exact bit 2 (.reg .e)
  | bit_2_h => exact bit 2 (.reg .h)
  | bit_2_l => exact bit 2 (.reg .l)
  | bit_2_atHL => exact bit 2 .atHL
  | bit_2_a => exact bit 2 (.reg .a)
  | bit_3_b => exact bit 3 (.reg .b)
  | bit_3_c => exact bit 3 (.reg .c)
  | bit_3_d => exact bit 3 (.reg .d)
  | bit_3_e => exact bit 3 (.reg .e)
  | bit_3_h => exact bit 3 (.reg .h)
  | bit_3_l => exact bit 3 (.reg .l)
  | bit_3_atHL => exact bit 3 .atHL
  | bit_3_a => exact bit 3 (.reg .a)
  | bit_4_b => exact bit 4 (.reg .b)
  | bit_4_c => exact bit 4 (.reg .c)
  | bit_4_d => exact bit 4 (.reg .d)
  | bit_4_e => exact bit 4 (.reg .e)
  | bit_4_h => exact bit 4 (.reg .h)
  | bit_4_l => exact bit 4 (.reg .l)
  | bit_4_atHL => exact bit 4 .atHL
  | bit_4_a => exact bit 4 (.reg .a)
  | bit_5_b => exact bit 5 (.reg .b)
  | bit_5_c => exact bit 5 (.reg .c)
  | bit_5_d => exact bit 5 (.reg .d)
  | bit_5_e => exact bit 5 (.reg .e)
  | bit_5_h => exact bit 5 (.reg .h)
  | bit_5_l => exact bit 5 (.reg .l)
  | bit_5_atHL => exact bit 5 .atHL
  | bit_5_a => exact bit 5 (.reg .a)
  | bit_6_b => exact bit 6 (.reg .b)
  | bit_6_c => exact bit 6 (.reg .c)
  | bit_6_d => exact bit 6 (.reg .d)
  | bit_6_e => exact bit 6 (.reg .e)
  | bit_6_h => exact bit 6 (.reg .h)
  | bit_6_l => exact bit 6 (.reg .l)
  | bit_6_atHL => exact bit 6 .atHL
  | bit_6_a => exact bit 6 (.reg .a)
  | bit_7_b => exact bit 7 (.reg .b)
  | bit_7_c => exact bit 7 (.reg .c)
  | bit_7_d => exact bit 7 (.reg .d)
  | bit_7_e => exact bit 7 (.reg .e)
  | bit_7_h => exact bit 7 (.reg .h)
  | bit_7_l => exact bit 7 (.reg .l)
  | bit_7_atHL => exact bit 7 .atHL
  | bit_7_a => exact bit 7 (.reg .a)
  | res_0_b => exact res 0 (.reg .b)
  | res_0_c => exact res 0 (.reg .c)
  | res_0_d => exact res 0 (.reg .d)
  | res_0_e => exact res 0 (.reg .e)
  | res_0_h => exact res 0 (.reg .h)
  | res_0_l => exact res 0 (.reg .l)
  | res_0_atHL => exact res 0 .atHL
  | res_0_a => exact res 0 (.reg .a)
  | res_1_b => exact res 1 (.reg .b)
  | res_1_c => exact res 1 (.reg .c)
  | res_1_d => exact res 1 (.reg .d)
  | res_1_e => exact res 1 (.reg .e)
  | res_1_h => exact res 1 (.reg .h)
  | res_1_l => exact res 1 (.reg .l)
  | res_1_atHL => exact res 1 .atHL
  | res_1_a => exact res 1 (.reg .a)
  | res_2_b => exact res 2 (.reg .b)
  | res_2_c => exact res 2 (.reg .c)
  | res_2_d => exact res 2 (.reg .d)
  | res_2_e => exact res 2 (.reg .e)
  | res_2_h => exact res 2 (.reg .h)
  | res_2_l => exact res 2 (.reg .l)
  | res_2_atHL => exact res 2 .atHL
  | res_2_a => exact res 2 (.reg .a)
  | res_3_b => exact res 3 (.reg .b)
  | res_3_c => exact res 3 (.reg .c)
  | res_3_d => exact res 3 (.reg .d)
  | res_3_e => exact res 3 (.reg .e)
  | res_3_h => exact res 3 (.reg .h)
  | res_3_l => exact res 3 (.reg .l)
  | res_3_atHL => exact res 3 .atHL
  | res_3_a => exact res 3 (.reg .a)
  | res_4_b => exact res 4 (.reg .b)
  | res_4_c => exact res 4 (.reg .c)
  | res_4_d => exact res 4 (.reg .d)
  | res_4_e => exact res 4 (.reg .e)
  | res_4_h => exact res 4 (.reg .h)
  | res_4_l => exact res 4 (.reg .l)
  | res_4_atHL => exact res 4 .atHL
  | res_4_a => exact res 4 (.reg .a)
  | res_5_b => exact res 5 (.reg .b)
  | res_5_c => exact res 5 (.reg .c)
  | res_5_d => exact res 5 (.reg .d)
  | res_5_e => exact res 5 (.reg .e)
  | res_5_h => exact res 5 (.reg .h)
  | res_5_l => exact res 5 (.reg .l)
  | res_5_atHL => exact res 5 .atHL
  | res_5_a => exact res 5 (.reg .a)
  | res_6_b => exact res 6 (.reg .b)
  | res_6_c => exact res 6 (.reg .c)
  | res_6_d => exact res 6 (.reg .d)
  | res_6_e => exact res 6 (.reg .e)
  | res_6_h => exact res 6 (.reg .h)
  | res_6_l => exact res 6 (.reg .l)
  | res_6_atHL => exact res 6 .atHL
  | res_6_a => exact res 6 (.reg .a)
  | res_7_b => exact res 7 (.reg .b)
  | res_7_c => exact res 7 (.reg .c)
  | res_7_d => exact res 7 (.reg .d)
  | res_7_e => exact res 7 (.reg .e)
  | res_7_h => exact res 7 (.reg .h)
  | res_7_l => exact res 7 (.reg .l)
  | res_7_atHL => exact res 7 .atHL
  | res_7_a => exact res 7 (.reg .a)
  | set_0_b => exact set 0 (.reg .b)
  | set_0_c => exact set 0 (.reg .c)
  | set_0_d => exact set 0 (.reg .d)
  | set_0_e => exact set 0 (.reg .e)
  | set_0_h => exact set 0 (.reg .h)
  | set_0_l => exact set 0 (.reg .l)
  | set_0_atHL => exact set 0 .atHL
  | set_0_a => exact set 0 (.reg .a)
  | set_1_b => exact set 1 (.reg .b)
  | set_1_c => exact set 1 (.reg .c)
  | set_1_d => exact set 1 (.reg .d)
  | set_1_e => exact set 1 (.reg .e)
  | set_1_h => exact set 1 (.reg .h)
  | set_1_l => exact set 1 (.reg .l)
  | set_1_atHL => exact set 1 .atHL
  | set_1_a => exact set 1 (.reg .a)
  | set_2_b => exact set 2 (.reg .b)
  | set_2_c => exact set 2 (.reg .c)
  | set_2_d => exact set 2 (.reg .d)
  | set_2_e => exact set 2 (.reg .e)
  | set_2_h => exact set 2 (.reg .h)
  | set_2_l => exact set 2 (.reg .l)
  | set_2_atHL => exact set 2 .atHL
  | set_2_a => exact set 2 (.reg .a)
  | set_3_b => exact set 3 (.reg .b)
  | set_3_c => exact set 3 (.reg .c)
  | set_3_d => exact set 3 (.reg .d)
  | set_3_e => exact set 3 (.reg .e)
  | set_3_h => exact set 3 (.reg .h)
  | set_3_l => exact set 3 (.reg .l)
  | set_3_atHL => exact set 3 .atHL
  | set_3_a => exact set 3 (.reg .a)
  | set_4_b => exact set 4 (.reg .b)
  | set_4_c => exact set 4 (.reg .c)
  | set_4_d => exact set 4 (.reg .d)
  | set_4_e => exact set 4 (.reg .e)
  | set_4_h => exact set 4 (.reg .h)
  | set_4_l => exact set 4 (.reg .l)
  | set_4_atHL => exact set 4 .atHL
  | set_4_a => exact set 4 (.reg .a)
  | set_5_b => exact set 5 (.reg .b)
  | set_5_c => exact set 5 (.reg .c)
  | set_5_d => exact set 5 (.reg .d)
  | set_5_e => exact set 5 (.reg .e)
  | set_5_h => exact set 5 (.reg .h)
  | set_5_l => exact set 5 (.reg .l)
  | set_5_atHL => exact set 5 .atHL
  | set_5_a => exact set 5 (.reg .a)
  | set_6_b => exact set 6 (.reg .b)
  | set_6_c => exact set 6 (.reg .c)
  | set_6_d => exact set 6 (.reg .d)
  | set_6_e => exact set 6 (.reg .e)
  | set_6_h => exact set 6 (.reg .h)
  | set_6_l => exact set 6 (.reg .l)
  | set_6_atHL => exact set 6 .atHL
  | set_6_a => exact set 6 (.reg .a)
  | set_7_b => exact set 7 (.reg .b)
  | set_7_c => exact set 7 (.reg .c)
  | set_7_d => exact set 7 (.reg .d)
  | set_7_e => exact set 7 (.reg .e)
  | set_7_h => exact set 7 (.reg .h)
  | set_7_l => exact set 7 (.reg .l)
  | set_7_atHL => exact set 7 .atHL
  | set_7_a => exact set 7 (.reg .a)

end Sys2Proof
end

