-- ==== Sys2Proof/Laws/Exec.lean ====
section
/-! SUPPORT. The meaning of every family of instructions as one equation, for the provers to cite instead of unfolding the dispatch. -/

namespace Sys2Proof.Machine

/-- The three-bit values. -/
theorem bits3_cases {P : BitVec 3 → Prop} (h0 : P 0) (h1 : P 1) (h2 : P 2) (h3 : P 3) (h4 : P 4) (h5 : P 5) (h6 : P 6)
    (h7 : P 7) (b : BitVec 3) : P b := by
  match b with
  | 0 => exact h0
  | 1 => exact h1
  | 2 => exact h2
  | 3 => exact h3
  | 4 => exact h4
  | 5 => exact h5
  | 6 => exact h6
  | 7 => exact h7

theorem exec_family_ldRegReg (dst src : Reg8) (s : State) : exec (.ldRegReg dst src) s = .next (s.copyReg dst src) := by
  cases dst <;> cases src <;> rfl

theorem exec_family_ldRegImm (r : Reg8) (n : Byte) (s : State) : exec (.ldRegImm r n) s = .next (s.setReg r n) := by
  cases r <;> rfl

theorem exec_family_ldRegAtHL (r : Reg8) (s : State) : exec (.ldRegAtHL r) s = .next (s.loadReg r s.cpu.hl) := by
  cases r <;> rfl

theorem exec_family_ldAtHLReg (r : Reg8) (s : State) : exec (.ldAtHLReg r) s = .next (s.store s.cpu.hl (s.cpu.get r)) := by
  cases r <;> rfl

theorem exec_family_alu (op : AluOp) (src : Operand8) (s : State) : exec (.alu op src) s = .next (s.aluOperand op src) := by
  cases op <;> rcases src with (_ | _ | _ | _ | _ | _ | _) | _ <;> rfl

theorem exec_family_aluImm (op : AluOp) (n : Byte) (s : State) : exec (.aluImm op n) s = .next (s.aluValue op n) := by
  cases op <;> rfl

theorem exec_family_incOperand (t : Operand8) (s : State) : exec (.incOperand t) s = .next (s.modify t incResult) := by
  rcases t with (_ | _ | _ | _ | _ | _ | _) | _ <;> rfl

theorem exec_family_decOperand (t : Operand8) (s : State) : exec (.decOperand t) s = .next (s.modify t decResult) := by
  rcases t with (_ | _ | _ | _ | _ | _ | _) | _ <;> rfl

theorem exec_family_ldPairImm (p : Pair) (nn : Word) (s : State) : exec (.ldPairImm p nn) s = .next (s.setPairImm p nn) := by
  cases p <;> rfl

theorem exec_family_addHL (p : Pair) (s : State) : exec (.addHL p) s = .next (s.addToHL p) := by
  cases p <;> rfl

theorem exec_family_incPair (p : Pair) (s : State) : exec (.incPair p) s = .next (s.movePair p 1) := by
  cases p <;> rfl

theorem exec_family_decPair (p : Pair) (s : State) : exec (.decPair p) s = .next (s.movePair p (-1)) := by
  cases p <;> rfl

theorem exec_family_push (p : StackPair) (s : State) : exec (.push p) s = .next (s.pushPair p) := by
  cases p <;> rfl

theorem exec_family_pop (p : StackPair) (s : State) : exec (.pop p) s = .next (s.popPair p) := by
  cases p <;> rfl

theorem exec_family_jpCond (cc : Cond) (nn : Word) (s : State) : exec (.jpCond cc nn) s = .next (s.jumpIf cc nn) := by
  cases cc <;> rfl

theorem exec_family_jrCond (cc : Cond) (e : Byte) (s : State) : exec (.jrCond cc e) s = .next (s.jumpIf cc (s.relative e)) := by
  cases cc <;> rfl

theorem exec_family_callCond (cc : Cond) (nn : Word) (s : State) : exec (.callCond cc nn) s = .next (s.callIf cc nn) := by
  cases cc <;> rfl

theorem exec_family_retCond (cc : Cond) (s : State) : exec (.retCond cc) s = .next (s.retIf cc) := by
  cases cc <;> rfl

theorem exec_family_shift (op : ShiftOp) (t : Operand8) (s : State) : exec (.shift op t) s = .next (s.modify t (shiftResult op)) := by
  cases op <;> rcases t with (_ | _ | _ | _ | _ | _ | _) | _ <;> rfl

theorem exec_family_rst (t : BitVec 3) (s : State) : exec (.rst t) s = .next (s.call (BitVec.ofNat 16 (8 * t.toNat))) := by
  revert t; refine bits3_cases ?_ ?_ ?_ ?_ ?_ ?_ ?_ ?_ <;> rfl

theorem exec_family_bit (b : BitVec 3) (t : Operand8) (s : State) : exec (.bit b t) s = .next (s.testBit b t) := by
  revert b; refine bits3_cases ?_ ?_ ?_ ?_ ?_ ?_ ?_ ?_ <;> rcases t with (_ | _ | _ | _ | _ | _ | _) | _ <;> rfl

theorem exec_family_res (b : BitVec 3) (t : Operand8) (s : State) : exec (.res b t) s = .next (s.modifyBits t (resValue b)) := by
  revert b; refine bits3_cases ?_ ?_ ?_ ?_ ?_ ?_ ?_ ?_ <;> rcases t with (_ | _ | _ | _ | _ | _ | _) | _ <;> rfl

theorem exec_family_set (b : BitVec 3) (t : Operand8) (s : State) : exec (.set b t) s = .next (s.modifyBits t (setValue b)) := by
  revert b; refine bits3_cases ?_ ?_ ?_ ?_ ?_ ?_ ?_ ?_ <;> rcases t with (_ | _ | _ | _ | _ | _ | _) | _ <;> rfl

end Sys2Proof.Machine
end

