-- ==== Sys2Proof/Laws/Effects.lean ====
section
/-! SUPPORT. What an instruction and a step can do at all: CPU updates, M-cycles and bus writes, in some order. A fact that these three keep holds
after every instruction. -/

namespace Sys2Proof.Machine

/-- A state reached from `s` by CPU updates, M-cycles and bus writes. -/
inductive State.Effects (s : State) : State → Prop
  | start : State.Effects s s
  | setCpu {t : State} (h : State.Effects s t) (c : Cpu) : State.Effects s (t.setCpu c)
  | mcycle {t : State} (h : State.Effects s t) : State.Effects s t.mcycle
  | write {t : State} (h : State.Effects s t) (a : Word) (v : Byte) : State.Effects s (t.write a v)

namespace State.Effects

variable {s t : State}

theorem store (h : s.Effects t) (a : Word) (v : Byte) : s.Effects (t.store a v) := h.mcycle.write a v

theorem loadAStep (h : s.Effects t) (d : Word) : s.Effects (t.loadAStep d) := (h.mcycle.setCpu _).setCpu _

theorem storeAStep (h : s.Effects t) (d : Word) : s.Effects (t.storeAStep d) := (h.store _ _).setCpu _

theorem push16 (h : s.Effects t) (v : Word) : s.Effects (t.push16 v) := (((h.setCpu _).store _ _).setCpu _).store _ _

theorem pop16 (h : s.Effects t) : s.Effects t.pop16.2 := ((h.mcycle.setCpu _).mcycle).setCpu _

theorem pushPair (h : s.Effects t) (p : StackPair) : s.Effects (t.pushPair p) := h.mcycle.push16 _

theorem popPair (h : s.Effects t) (p : StackPair) : s.Effects (t.popPair p) := h.pop16.setCpu _

theorem storeSp (h : s.Effects t) (nn : Word) : s.Effects (t.storeSp nn) := (h.store _ _).store _ _

theorem readOperand (h : s.Effects t) (o : Operand8) : s.Effects (t.readOperand o).2 := by
  cases o with
  | reg r => exact h
  | atHL => exact h.mcycle

theorem writeOperand (h : s.Effects t) (o : Operand8) (v : Byte) : s.Effects (t.writeOperand o v) := by
  cases o with
  | reg r => exact h.setCpu _
  | atHL => exact h.store _ _

theorem aluOperand (h : s.Effects t) (op : AluOp) (o : Operand8) : s.Effects (t.aluOperand op o) := (h.readOperand o).setCpu _

theorem modify (h : s.Effects t) (o : Operand8) (g : Byte → Byte → Flagged) : s.Effects (t.modify o g) :=
  ((h.readOperand o).setCpu _).writeOperand o _

theorem modifyBits (h : s.Effects t) (o : Operand8) (g : Byte → Byte) : s.Effects (t.modifyBits o g) := (h.readOperand o).writeOperand o _

theorem testBit (h : s.Effects t) (b : BitVec 3) (o : Operand8) : s.Effects (t.testBit b o) := (h.readOperand o).setCpu _

theorem call (h : s.Effects t) (a : Word) : s.Effects (t.call a) := (h.mcycle.push16 _).setCpu _

theorem ret (h : s.Effects t) : s.Effects t.ret := h.pop16.mcycle.setCpu _

theorem returnFromInterrupt (h : s.Effects t) : s.Effects t.returnFromInterrupt := h.ret.setCpu _

theorem jumpIf (h : s.Effects t) (cc : Cond) (a : Word) : s.Effects (t.jumpIf cc a) := by
  unfold State.jumpIf
  split
  · exact h.mcycle.setCpu _
  · exact h

theorem callIf (h : s.Effects t) (cc : Cond) (a : Word) : s.Effects (t.callIf cc a) := by
  unfold State.callIf
  split
  · exact h.call a
  · exact h

theorem retIf (h : s.Effects t) (cc : Cond) : s.Effects (t.retIf cc) := by
  unfold State.retIf
  split
  · exact h.mcycle.ret
  · exact h.mcycle

theorem halt (h : s.Effects t) : s.Effects t.halt := by
  unfold State.halt
  split
  · exact h.setCpu _
  · exact h.setCpu _

theorem fetch8 (h : s.Effects t) : s.Effects t.fetch8.2 := h.mcycle.setCpu _

theorem prefixed (h : s.Effects t) (op2 : Byte) : s.Effects (t.prefixed op2) := by
  unfold State.prefixed
  dsimp only
  split
  · exact h.modify _ _
  · exact h.testBit _ _
  · exact h.modifyBits _ _
  · exact h.modifyBits _ _

/-- Fetching an instruction: M-cycles and PC. -/
theorem fetchInstr (s : State) : s.Effects s.fetchInstr.2 := by
  unfold State.fetchInstr
  have h : s.Effects s.fetchOpcode.2 := Effects.start.setCpu _
  cases lookup s.fetchOpcode.1 with
  | one i => exact h
  | two f => exact h.fetch8
  | stop => exact h.setCpu _
  | three f => exact h.fetch8.fetch8
  | prefixCb => exact h.fetch8

end State.Effects

theorem State.undefinedOpcode_next {s t : State} {op : Byte} (h : s.undefinedOpcode op = .next t) : t = s := by
  unfold State.undefinedOpcode at h
  split at h <;> cases h
  rfl

/-- All that an instruction can do. -/
theorem exec_effects (i : Instr) {s t : State} (hx : exec i s = .next t) : s.Effects t := by
  have h : s.Effects s := .start
  have key : ∀ {u : State}, exec i s = .next u → s.Effects u → s.Effects t := fun hu hi => by
    rw [hu] at hx; cases hx; exact hi
  induction i using Instr.family_cases with
  | ldRegReg dst src => exact key (exec_family_ldRegReg dst src s) (h.setCpu _)
  | ldRegImm r n => exact key (exec_family_ldRegImm r n s) (h.setCpu _)
  | ldRegAtHL r => exact key (exec_family_ldRegAtHL r s) (h.mcycle.setCpu _)
  | ldAtHLReg r => exact key (exec_family_ldAtHLReg r s) (h.store _ _)
  | alu op src => exact key (exec_family_alu op src s) (h.aluOperand _ _)
  | aluImm op n => exact key (exec_family_aluImm op n s) (h.setCpu _)
  | incOperand t => exact key (exec_family_incOperand t s) (h.modify _ _)
  | decOperand t => exact key (exec_family_decOperand t s) (h.modify _ _)
  | ldPairImm p nn => exact key (exec_family_ldPairImm p nn s) (h.setCpu _)
  | addHL p => exact key (exec_family_addHL p s) (h.mcycle.setCpu _)
  | incPair p => exact key (exec_family_incPair p s) (h.mcycle.setCpu _)
  | decPair p => exact key (exec_family_decPair p s) (h.mcycle.setCpu _)
  | push p => exact key (exec_family_push p s) (h.pushPair _)
  | pop p => exact key (exec_family_pop p s) (h.popPair _)
  | jpCond cc nn => exact key (exec_family_jpCond cc nn s) (h.jumpIf _ _)
  | jrCond cc e => exact key (exec_family_jrCond cc e s) (h.jumpIf _ _)
  | callCond cc nn => exact key (exec_family_callCond cc nn s) (h.callIf _ _)
  | retCond cc => exact key (exec_family_retCond cc s) (h.retIf _)
  | rst t => exact key (exec_family_rst t s) (h.call _)
  | shift op t => exact key (exec_family_shift op t s) (h.modify _ _)
  | bit b t => exact key (exec_family_bit b t s) (h.testBit _ _)
  | res b t => exact key (exec_family_res b t s) (h.modifyBits _ _)
  | set b t => exact key (exec_family_set b t s) (h.modifyBits _ _)
  | h_nop => exact key rfl h
  | h_ld_atBC_a => exact key rfl (h.store _ _)
  | h_ld_atDE_a => exact key rfl (h.store _ _)
  | h_ld_atNN_a nn => exact key rfl (h.store _ _)
  | h_ldh_atN_a n => exact key rfl (h.store _ _)
  | h_ldh_atC_a => exact key rfl (h.store _ _)
  | h_ld_atHL_n n => exact key rfl (h.store _ _)
  | h_ld_a_atBC => exact key rfl (h.mcycle.setCpu _)
  | h_ld_a_atDE => exact key rfl (h.mcycle.setCpu _)
  | h_ld_a_atNN nn => exact key rfl (h.mcycle.setCpu _)
  | h_ldh_a_atN n => exact key rfl (h.mcycle.setCpu _)
  | h_ldh_a_atC => exact key rfl (h.mcycle.setCpu _)
  | h_ld_atHLinc_a => exact key rfl (h.storeAStep _)
  | h_ld_atHLdec_a => exact key rfl (h.storeAStep _)
  | h_ld_a_atHLinc => exact key rfl (h.loadAStep _)
  | h_ld_a_atHLdec => exact key rfl (h.loadAStep _)
  | h_ld_atNN_sp nn => exact key rfl (h.storeSp _)
  | h_ld_sp_hl => exact key rfl (h.mcycle.setCpu _)
  | h_ld_hl_sp_e e => exact key rfl (h.mcycle.setCpu _)
  | h_add_sp_e e => exact key rfl (h.mcycle.mcycle.setCpu _)
  | h_rlca => exact key rfl (h.setCpu _)
  | h_rrca => exact key rfl (h.setCpu _)
  | h_rla => exact key rfl (h.setCpu _)
  | h_rra => exact key rfl (h.setCpu _)
  | h_daa => exact key rfl (h.setCpu _)
  | h_cpl => exact key rfl (h.setCpu _)
  | h_scf => exact key rfl (h.setCpu _)
  | h_ccf => exact key rfl (h.setCpu _)
  | h_jp_nn nn => exact key rfl (h.mcycle.setCpu _)
  | h_jr_e e => exact key rfl (h.mcycle.setCpu _)
  | h_jp_hl => exact key rfl (h.setCpu _)
  | h_call_nn nn => exact key rfl (h.call _)
  | h_ret => exact key rfl h.ret
  | h_reti => exact key rfl h.returnFromInterrupt
  | h_halt => exact key rfl h.halt
  | h_di => exact key rfl (h.setCpu _)
  | h_ei => exact key rfl (h.setCpu _)
  | h_prefixCb => exact key rfl (h.fetch8.prefixed _)
  | h_stop x =>
    have hx' : (match s.cfg.stopPolicy with
      | .asSpecified => Host.Outcome.next s.stopClock
      | .refuse => Host.Outcome.refused Refusal.stopOpcode : Answer) = Host.Outcome.next t := hx
    split at hx' <;> cases hx'
    exact h.setCpu _
  | h_undef_d3 => exact State.undefinedOpcode_next hx ▸ h
  | h_undef_db => exact State.undefinedOpcode_next hx ▸ h
  | h_undef_dd => exact State.undefinedOpcode_next hx ▸ h
  | h_undef_e3 => exact State.undefinedOpcode_next hx ▸ h
  | h_undef_e4 => exact State.undefinedOpcode_next hx ▸ h
  | h_undef_eb => exact State.undefinedOpcode_next hx ▸ h
  | h_undef_ec => exact State.undefinedOpcode_next hx ▸ h
  | h_undef_ed => exact State.undefinedOpcode_next hx ▸ h
  | h_undef_f4 => exact State.undefinedOpcode_next hx ▸ h
  | h_undef_fc => exact State.undefinedOpcode_next hx ▸ h
  | h_undef_fd => exact State.undefinedOpcode_next hx ▸ h

end Sys2Proof.Machine
end

