-- ==== Sys2Proof/Laws/HostRun.lean ====
section
/-! SUPPORT. The run of the block over its host calls: its two equations, and the induction over a run, said once. -/

namespace Sys2Proof.Machine

theorem runHost_nil (cfg : Config) (block : Option State) : runHost cfg block [] = ([], block) := rfl

theorem runHost_stop {cfg : Config} {block : Option State} {call : HostCall} (calls : List HostCall)
    (h : (hostCall cfg block call).1.ends = true) :
    runHost cfg block (call :: calls) = ([(hostCall cfg block call).1], (hostCall cfg block call).2) := by
  simp only [runHost, h, if_true]

theorem runHost_next {cfg : Config} {block : Option State} {call : HostCall} (calls : List HostCall)
    (h : (hostCall cfg block call).1.ends = false) :
    runHost cfg block (call :: calls) =
      ((hostCall cfg block call).1 :: (runHost cfg (hostCall cfg block call).2 calls).1,
       (runHost cfg (hostCall cfg block call).2 calls).2) := by
  simp only [runHost, h, Bool.false_eq_true, if_false]

/-- What every call keeps, every run keeps. -/
theorem runHost_keeps {cfg : Config} {P : Option State → Prop} (hcall : ∀ block call, P block → P (hostCall cfg block call).2)
    (block : Option State) (calls : List HostCall) (h : P block) : P (runHost cfg block calls).2 := by
  induction calls generalizing block with
  | nil => exact h
  | cons call calls ih =>
    cases he : (hostCall cfg block call).1.ends with
    | true => rw [runHost_stop calls he]; exact hcall block call h
    | false => rw [runHost_next calls he]; exact ih _ (hcall block call h)

theorem State.hostStep_next {s t : State} (h : Sys2Proof.Machine.step s = .next t) : s.hostStep = (.cycles t.cycles, some t) := by
  unfold State.hostStep
  rw [h]

theorem State.hostStep_refused {s : State} {r : Refusal} (h : Sys2Proof.Machine.step s = .refused r) :
    s.hostStep = (.refused r, some s) := by
  unfold State.hostStep
  rw [h]

/-- A step of the host leaves either the next state or, refused, the machine as it was. -/
theorem State.hostStep_state (s : State) : s.hostStep.2 = some s ∨ ∃ t, Sys2Proof.Machine.step s = .next t ∧ s.hostStep.2 = some t := by
  cases h : Sys2Proof.Machine.step s with
  | next t => exact .inr ⟨t, rfl, by rw [State.hostStep_next h]⟩
  | fault f => cases f
  | refused r => exact .inl (by rw [State.hostStep_refused h])

theorem hostLoad_ok {cfg : Config} {rom : List Byte} {save : Option (List Byte)} {t : State} (block : Option State)
    (h : loadCartridge cfg rom save = .ok t) : hostLoad cfg block rom save = (.loaded, some t) := by
  unfold hostLoad
  rw [h]

theorem hostLoad_error {cfg : Config} {rom : List Byte} {save : Option (List Byte)} {e : LoadError} (block : Option State)
    (h : loadCartridge cfg rom save = .error e) : hostLoad cfg block rom save = (.invalidRom, block) := by
  unfold hostLoad
  rw [h]

end Sys2Proof.Machine
end

