-- ==== Sys2Proof/Laws/Invariant.lean ====
section
/-! SUPPORT. Every shared operation keeps the invariant, so every instruction does. -/

namespace Sys2Proof.Machine

/-- New registers with the same control state keep the invariant when F keeps its lower nibble at 0. -/
theorem State.Inv.setRegs {s : State} (h : s.Inv) {c : Cpu} (hf : maskF c.f = c.f) (hb : c.haltBug = s.cpu.haltBug)
    (hi : c.ime = s.cpu.ime) (he : c.eiPending = s.cpu.eiPending) : (s.setCpu c).Inv :=
  h.setCpu (h.cpu.congr hf hb hi he)

theorem State.Inv.copyReg {s : State} (h : s.Inv) (dst src : Reg8) : (s.copyReg dst src).Inv :=
  h.setRegs (by simpa using h.cpu.flags) (by simp) (by simp) (by simp)

theorem State.Inv.setReg {s : State} (h : s.Inv) (r : Reg8) (n : Byte) : (s.setReg r n).Inv :=
  h.setRegs (by simpa using h.cpu.flags) (by simp) (by simp) (by simp)

theorem State.Inv.loadReg {s : State} (h : s.Inv) (r : Reg8) (a : Word) : (s.loadReg r a).Inv :=
  h.mcycle.setRegs (by simpa using h.cpu.flags) (by simp) (by simp) (by simp)

theorem State.Inv.store {s : State} (h : s.Inv) (a : Word) (v : Byte) : (s.store a v).Inv := h.mcycle.write a v

theorem State.Inv.loadAStep {s : State} (h : s.Inv) (d : Word) : (s.loadAStep d).Inv :=
  have h' := h.loadReg .a s.cpu.hl
  h'.setRegs h'.cpu.flags rfl rfl rfl

theorem State.Inv.storeAStep {s : State} (h : s.Inv) (d : Word) : (s.storeAStep d).Inv :=
  have h' := h.store s.cpu.hl s.cpu.a
  h'.setRegs h'.cpu.flags rfl rfl rfl

theorem State.Inv.setSp {s : State} (h : s.Inv) (a : Word) : (s.setSp a).Inv := h.setRegs h.cpu.flags rfl rfl rfl

theorem State.Inv.setPc {s : State} (h : s.Inv) (a : Word) : (s.setPc a).Inv := h.setRegs h.cpu.flags rfl rfl rfl

theorem State.Inv.setF {s : State} (h : s.Inv) {f : Byte} (hf : maskF f = f) : (s.setF f).Inv := h.setRegs hf rfl rfl rfl

theorem State.Inv.setAF {s : State} (h : s.Inv) {r : Flagged} (hf : maskF r.f = r.f) : (s.setAF r).Inv :=
  h.setRegs hf rfl rfl rfl

theorem State.Inv.pushByte {s : State} (h : s.Inv) (v : Byte) : (s.pushByte v).Inv := (h.setSp _).store _ v

theorem State.Inv.push16 {s : State} (h : s.Inv) (v : Word) : (s.push16 v).Inv := (h.pushByte _).pushByte _

theorem State.Inv.popByte {s : State} (h : s.Inv) : s.popByte.2.Inv := h.mcycle.setSp _

theorem State.Inv.pop16 {s : State} (h : s.Inv) : s.pop16.2.Inv := h.popByte.popByte

theorem State.Inv.pushPair {s : State} (h : s.Inv) (p : StackPair) : (s.pushPair p).Inv := h.mcycle.push16 _

theorem State.Inv.popPair {s : State} (h : s.Inv) (p : StackPair) : (s.popPair p).Inv :=
  have h' := h.pop16
  h'.setRegs (by cases p <;> first | exact h'.cpu.flags | exact maskF_maskF _) (by simp) (by simp) (by simp)

theorem State.Inv.setPairImm {s : State} (h : s.Inv) (p : Pair) (nn : Word) : (s.setPairImm p nn).Inv :=
  h.setRegs (by simpa using h.cpu.flags) (by simp) (by simp) (by simp)

theorem State.Inv.storeSp {s : State} (h : s.Inv) (nn : Word) : (s.storeSp nn).Inv := (h.store _ _).store _ _

theorem State.Inv.copyHLToSp {s : State} (h : s.Inv) : s.copyHLToSp.Inv := h.mcycle.setSp _

theorem maskF_spPlusFlags (sp : Word) (e : Byte) : maskF (spPlusFlags sp e) = spPlusFlags sp e := maskF_flagsByte _ _ _ _

theorem State.Inv.loadHLFromSp {s : State} (h : s.Inv) (e : Byte) : (s.loadHLFromSp e).Inv :=
  h.mcycle.setRegs (maskF_spPlusFlags _ _) (by simp [Cpu.setHL]) (by simp [Cpu.setHL]) (by simp [Cpu.setHL])

theorem maskF_aluResult (op : AluOp) (a v f : Byte) : maskF (aluResult op a v f).f = (aluResult op a v f).f := by
  cases op <;> exact maskF_flagsByte _ _ _ _

theorem State.Inv.aluValue {s : State} (h : s.Inv) (op : AluOp) (v : Byte) : (s.aluValue op v).Inv :=
  h.setAF (maskF_aluResult _ _ _ _)

theorem State.Inv.readOperand {s : State} (h : s.Inv) (t : Operand8) : (s.readOperand t).2.Inv := by
  cases t with
  | reg r => exact h
  | atHL => exact h.mcycle

theorem State.Inv.writeOperand {s : State} (h : s.Inv) (t : Operand8) (v : Byte) : (s.writeOperand t v).Inv := by
  cases t with
  | reg r => exact h.setRegs (by simpa using h.cpu.flags) (by simp) (by simp) (by simp)
  | atHL => exact h.store _ _

theorem State.Inv.aluOperand {s : State} (h : s.Inv) (op : AluOp) (src : Operand8) : (s.aluOperand op src).Inv :=
  (h.readOperand src).aluValue op _

theorem State.Inv.modify {s : State} (h : s.Inv) (t : Operand8) {g : Byte → Byte → Flagged} (hg : ∀ v f, maskF (g v f).f = (g v f).f) :
    (s.modify t g).Inv := ((h.readOperand t).setF (hg _ _)).writeOperand t _

theorem State.Inv.modifyBits {s : State} (h : s.Inv) (t : Operand8) (g : Byte → Byte) : (s.modifyBits t g).Inv :=
  (h.readOperand t).writeOperand t _

theorem State.Inv.testBit {s : State} (h : s.Inv) (b : BitVec 3) (t : Operand8) : (s.testBit b t).Inv :=
  (h.readOperand t).setF (maskF_flagsByte _ _ _ _)

theorem State.Inv.addToHL {s : State} (h : s.Inv) (p : Pair) : (s.addToHL p).Inv :=
  h.mcycle.setRegs (maskF_flagsByte _ _ _ _) (by simp [Cpu.setHL]) (by simp [Cpu.setHL]) (by simp [Cpu.setHL])

theorem State.Inv.movePair {s : State} (h : s.Inv) (p : Pair) (d : Word) : (s.movePair p d).Inv :=
  h.mcycle.setRegs (by simpa using h.cpu.flags) (by simp) (by simp) (by simp)

theorem State.Inv.addToSp {s : State} (h : s.Inv) (e : Byte) : (s.addToSp e).Inv :=
  h.mcycle.mcycle.setRegs (maskF_spPlusFlags _ _) (by simp) (by simp) (by simp)

theorem State.Inv.jump {s : State} (h : s.Inv) (a : Word) : (s.jump a).Inv := h.mcycle.setPc a

theorem State.Inv.call {s : State} (h : s.Inv) (a : Word) : (s.call a).Inv := (h.mcycle.push16 _).setPc a

theorem State.Inv.ret {s : State} (h : s.Inv) : s.ret.Inv := h.pop16.mcycle.setPc _

theorem State.Inv.jumpIf {s : State} (h : s.Inv) (cc : Cond) (a : Word) : (s.jumpIf cc a).Inv := by
  unfold State.jumpIf
  split
  · exact h.jump a
  · exact h

theorem State.Inv.callIf {s : State} (h : s.Inv) (cc : Cond) (a : Word) : (s.callIf cc a).Inv := by
  unfold State.callIf
  split
  · exact h.call a
  · exact h

theorem State.Inv.retIf {s : State} (h : s.Inv) (cc : Cond) : (s.retIf cc).Inv := by
  unfold State.retIf
  split
  · exact h.mcycle.ret
  · exact h.mcycle

/-! The control state over the operations that change it. -/

/-- A field of the CPU that no write of PC, SP, the registers or the flags touches is the same after `ret`. -/
theorem State.ret_control (s : State) :
    s.ret.cpu.ime = s.cpu.ime ∧ s.ret.cpu.eiPending = s.cpu.eiPending ∧ s.ret.cpu.haltBug = s.cpu.haltBug ∧
      s.ret.cpu.f = s.cpu.f := by
  simp [State.ret, State.pop16, State.popByte]

theorem State.Inv.returnFromInterrupt {s : State} (h : s.Inv) (hb : s.cpu.haltBug = false) : s.returnFromInterrupt.Inv :=
  h.ret.setCpu ⟨h.ret.cpu.flags, fun hb' => absurd (hb'.symm.trans (s.ret_control.2.2.1.trans hb)) (by decide)⟩

theorem State.Inv.halt {s : State} (h : s.Inv) (he : s.cpu.eiPending = false) : s.halt.Inv := by
  unfold State.halt
  split
  · rename_i hc
    exact h.setCpu ⟨h.cpu.flags, fun _ => ⟨hc.1, he⟩⟩
  · exact h.setRegs h.cpu.flags rfl rfl rfl

theorem State.Inv.prefixed {s : State} (h : s.Inv) (op2 : Byte) : (s.prefixed op2).Inv := by
  unfold State.prefixed
  dsimp only
  split
  · exact h.modify _ fun _ _ => maskF_flagsByte _ _ _ _
  · exact h.testBit _ _
  · exact h.modifyBits _ _
  · exact h.modifyBits _ _

theorem State.Inv.fetchByte {s : State} (h : s.Inv) : s.fetchByte.2.Inv := h.setPc _

theorem State.Inv.fetch8 {s : State} (h : s.Inv) : s.fetch8.2.Inv := h.mcycle.fetchByte

/-- Every instruction keeps the invariant when it starts as a step starts it: the halt bug consumed and the EI latch applied. -/
theorem exec_inv (i : Instr) {s t : State} (h : s.Inv) (hb : s.cpu.haltBug = false) (he : s.cpu.eiPending = false)
    (hx : exec i s = .next t) : t.Inv := by
  have key : ∀ {u : State}, exec i s = .next u → u.Inv → t.Inv := fun hu hi => by
    rw [hu] at hx; cases hx; exact hi
  induction i using Instr.family_cases with
  | ldRegReg dst src => exact key (exec_family_ldRegReg dst src s) (h.copyReg _ _)
  | ldRegImm r n => exact key (exec_family_ldRegImm r n s) (h.setReg _ _)
  | ldRegAtHL r => exact key (exec_family_ldRegAtHL r s) (h.loadReg _ _)
  | ldAtHLReg r => exact key (exec_family_ldAtHLReg r s) (h.store _ _)
  | alu op src => exact key (exec_family_alu op src s) (h.aluOperand _ _)
  | aluImm op n => exact key (exec_family_aluImm op n s) (h.aluValue _ _)
  | incOperand t => exact key (exec_family_incOperand t s) (h.modify _ fun _ _ => maskF_flagsByte _ _ _ _)
  | decOperand t => exact key (exec_family_decOperand t s) (h.modify _ fun _ _ => maskF_flagsByte _ _ _ _)
  | ldPairImm p nn => exact key (exec_family_ldPairImm p nn s) (h.setPairImm _ _)
  | addHL p => exact key (exec_family_addHL p s) (h.addToHL _)
  | incPair p => exact key (exec_family_incPair p s) (h.movePair _ _)
  | decPair p => exact key (exec_family_decPair p s) (h.movePair _ _)
  | push p => exact key (exec_family_push p s) (h.pushPair _)
  | pop p => exact key (exec_family_pop p s) (h.popPair _)
  | jpCond cc nn => exact key (exec_family_jpCond cc nn s) (h.jumpIf _ _)
  | jrCond cc e => exact key (exec_family_jrCond cc e s) (h.jumpIf _ _)
  | callCond cc nn => exact key (exec_family_callCond cc nn s) (h.callIf _ _)
  | retCond cc => exact key (exec_family_retCond cc s) (h.retIf _)
  | rst t => exact key (exec_family_rst t s) (h.call _)
  | shift op t => exact key (exec_family_shift op t s) (h.modify _ fun _ _ => maskF_flagsByte _ _ _ _)
  | bit b t => exact key (exec_family_bit b t s) (h.testBit _ _)
  | res b t => exact key (exec_family_res b t s) (h.modifyBits _ _)
  | set b t => exact key (exec_family_set b t s) (h.modifyBits _ _)
  | h_nop => exact key rfl h
  | h_ld_atBC_a => exact key rfl (h.store _ _)
  | h_ld_atDE_a => exact key rfl (h.store _ _)
  | h_ld_atNN_a nn => exact key rfl (h.store _ _)
  | h_ldh_atN_a n => exact key rfl (h.store _ _)
  | h_ldh_atC_a => exact key rfl (h.store _ _)
  | h_ld_atHL_n n => exact key rfl (h.store _ _)
  | h_ld_a_atBC => exact key rfl (h.loadReg _ _)
  | h_ld_a_atDE => exact key rfl (h.loadReg _ _)
  | h_ld_a_atNN nn => exact key rfl (h.loadReg _ _)
  | h_ldh_a_atN n => exact key rfl (h.loadReg _ _)
  | h_ldh_a_atC => exact key rfl (h.loadReg _ _)
  | h_ld_atHLinc_a => exact key rfl (h.storeAStep _)
  | h_ld_atHLdec_a => exact key rfl (h.storeAStep _)
  | h_ld_a_atHLinc => exact key rfl (h.loadAStep _)
  | h_ld_a_atHLdec => exact key rfl (h.loadAStep _)
  | h_ld_atNN_sp nn => exact key rfl (h.storeSp _)
  | h_ld_sp_hl => exact key rfl h.copyHLToSp
  | h_ld_hl_sp_e e => exact key rfl (h.loadHLFromSp _)
  | h_add_sp_e e => exact key rfl (h.addToSp _)
  | h_rlca => exact key rfl (h.setAF (maskF_flagsByte _ _ _ _))
  | h_rrca => exact key rfl (h.setAF (maskF_flagsByte _ _ _ _))
  | h_rla => exact key rfl (h.setAF (maskF_flagsByte _ _ _ _))
  | h_rra => exact key rfl (h.setAF (maskF_flagsByte _ _ _ _))
  | h_daa => exact key rfl (h.setAF (maskF_flagsByte _ _ _ _))
  | h_cpl => exact key rfl (h.setAF (maskF_flagsByte _ _ _ _))
  | h_scf => exact key rfl (h.setF (maskF_flagsByte _ _ _ _))
  | h_ccf => exact key rfl (h.setF (maskF_flagsByte _ _ _ _))
  | h_jp_nn nn => exact key rfl (h.jump _)
  | h_jr_e e => exact key rfl (h.jump _)
  | h_jp_hl => exact key rfl (h.setPc _)
  | h_call_nn nn => exact key rfl (h.call _)
  | h_ret => exact key rfl h.ret
  | h_reti => exact key rfl (h.returnFromInterrupt hb)
  | h_halt => exact key rfl (h.halt he)
  | h_di =>
    exact key rfl (h.setCpu ⟨h.cpu.flags, fun hb' => absurd (hb'.symm.trans hb) (by decide)⟩)
  | h_ei => exact key rfl (h.setCpu ⟨h.cpu.flags, fun hb' => absurd (hb'.symm.trans hb) (by decide)⟩)
  | h_prefixCb => exact key rfl (h.fetch8.prefixed _)
  | h_stop x =>
    have hx' : (match s.cfg.stopPolicy with
      | .asSpecified => Host.Outcome.next s.stopClock
      | .refuse => Host.Outcome.refused Refusal.stopOpcode : Answer) = Host.Outcome.next t := hx
    split at hx' <;> cases hx'
    exact h.setRegs h.cpu.flags rfl rfl rfl
  | h_undef_d3 => exact State.undefinedOpcode_next hx ▸ h
  | h_undef_db => exact State.undefinedOpcode_next hx ▸ h
  | h_undef_dd => exact State.undefinedOpcode_next hx ▸ h
  | h_undef_e3 => exact State.undefinedOpcode_next hx ▸ h
  | h_undef_e4 => exact State.undefinedOpcode_next hx ▸ h
  | h_undef_eb => exact State.undefinedOpcode_next hx ▸ h
  | h_undef_ec => exact State.undefinedOpcode_next hx ▸ h
  | h_undef_ed => exact State.undefinedOpcode_next hx ▸ h
  | h_undef_f4 => exact State.undefinedOpcode_next hx ▸ h
  | h_undef_fc => exact State.undefinedOpcode_next hx ▸ h
  | h_undef_fd => exact State.undefinedOpcode_next hx ▸ h

/-- Taking an interrupt keeps the invariant. -/
theorem State.Inv.takeInterrupt {s : State} (h : s.Inv) (k : Source) : (s.takeInterrupt k).Inv := by
  have h1 : State.Inv { s with ints := s.ints.acknowledge k, cpu := { s.cpu with ime := false, eiPending := false } } :=
    ⟨h.cfg, ⟨h.cpu.flags, fun _ => ⟨rfl, rfl⟩⟩, h.timer, h.joypad, h.ppu, h.apu, h.cart, h.wram, h.hram⟩
  exact (h1.mcycle.push16 _).mcycle.setPc _

/-- The opcode fetch consumes the halt bug. -/
theorem State.Inv.fetchOpcode {s : State} (h : s.Inv) : s.fetchOpcode.2.Inv :=
  h.setCpu ⟨h.cpu.flags, fun hb => (nomatch hb)⟩

/-- Fetching the operands keeps the invariant and the control state. -/
theorem State.Inv.fetchOperands {s : State} (h : s.Inv) (e : Entry) : (s.fetchOperands e).2.Inv := by
  cases e with
  | one i => exact h
  | two f => exact h.fetch8
  | stop => exact h.fetchByte
  | three f => exact h.fetch8.fetch8
  | prefixCb => exact h.fetch8

theorem State.fetchOperands_control (s : State) (e : Entry) :
    (s.fetchOperands e).2.cpu.haltBug = s.cpu.haltBug ∧ (s.fetchOperands e).2.cpu.eiPending = s.cpu.eiPending ∧
      (s.fetchOperands e).2.cpu.ime = s.cpu.ime := by
  cases e <;> simp [State.fetchOperands, State.fetch8, State.fetch16, State.fetchByte]

theorem State.Inv.applyEi {s : State} (h : s.Inv) : s.applyEi.Inv := by
  refine h.setCpu ⟨h.cpu.flags, fun hb => ⟨?_, rfl⟩⟩
  obtain ⟨h1, h2⟩ := h.cpu.haltBug hb
  show (s.cpu.ime || s.cpu.eiPending) = false
  rw [h1, h2]; rfl

theorem Answer.andThen_next {o : Answer} {g : State → State} {t : State} (h : o.andThen g = .next t) :
    ∃ u, o = .next u ∧ g u = t := by
  cases o with
  | next u => exact ⟨u, rfl, by simpa [Answer.andThen] using h⟩
  | fault r => cases h
  | refused r => cases h

theorem State.Inv.runInstr {s t : State} (h : s.Inv) (he : s.cpu.eiPending = false) (hx : s.runInstr = .next t) : t.Inv := by
  obtain ⟨u, hu, rfl⟩ := Answer.andThen_next hx
  obtain ⟨c1, c2, _⟩ := s.fetchOpcode.2.fetchOperands_control (lookup s.fetchOpcode.1)
  exact (exec_inv _ (h.fetchOpcode.fetchOperands _) (c1.trans rfl) (c2.trans he) hu).finish

theorem State.Inv.runAwake {s t : State} (h : s.Inv) (p : Option Source) (hx : s.runAwake p = .next t) : t.Inv := by
  unfold State.runAwake at hx
  split at hx
  · cases hx
    exact (h.takeInterrupt _).finish
  · exact h.applyEi.runInstr rfl hx

end Sys2Proof.Machine
end

