-- ==== Sys2Proof/Laws/IoPage.lean ====
section
/-! SUPPORT. Reads and writes of the I/O page by register, and the APU's stores as numbers, for the provers to cite instead of unfolding the
address map. -/

namespace Sys2Proof.Machine

/-- A read at an address of an I/O register; both premises are closed facts at a literal address. -/
theorem State.read_register (s : State) {a : Word} {r : IoReg} (ha : regionOf a = .io) (hr : ioRegOf a = r) :
    s.read a = s.readIo r := by
  subst hr
  unfold State.read
  rw [ha]

/-- A write at an address of an I/O register. -/
theorem State.write_register (s : State) {a : Word} {r : IoReg} (v : Byte) (ha : regionOf a = .io) (hr : ioRegOf a = r) :
    s.write a v = s.writeIo r v := by
  subst hr
  unfold State.write
  rw [ha]

/-! The register of each address of 20_memory R71. -/

theorem ioRegOf_p1 : ioRegOf 0xFF00 = .p1 := by simp [ioRegOf, deviceRegAt]
theorem ioRegOf_sb : ioRegOf 0xFF01 = .sb := by simp [ioRegOf, deviceRegAt]
theorem ioRegOf_sc : ioRegOf 0xFF02 = .sc := by simp [ioRegOf, deviceRegAt]
theorem ioRegOf_div : ioRegOf 0xFF04 = .div := by simp [ioRegOf, deviceRegAt]
theorem ioRegOf_tima : ioRegOf 0xFF05 = .tima := by simp [ioRegOf, deviceRegAt]
theorem ioRegOf_tma : ioRegOf 0xFF06 = .tma := by simp [ioRegOf, deviceRegAt]
theorem ioRegOf_tac : ioRegOf 0xFF07 = .tac := by simp [ioRegOf, deviceRegAt]
theorem ioRegOf_ifReg : ioRegOf 0xFF0F = .ifReg := by simp [ioRegOf, deviceRegAt]
theorem ioRegOf_lcdc : ioRegOf 0xFF40 = .lcdc := by simp [ioRegOf, deviceRegAt]
theorem ioRegOf_stat : ioRegOf 0xFF41 = .stat := by simp [ioRegOf, deviceRegAt]
theorem ioRegOf_scy : ioRegOf 0xFF42 = .scy := by simp [ioRegOf, deviceRegAt]
theorem ioRegOf_scx : ioRegOf 0xFF43 = .scx := by simp [ioRegOf, deviceRegAt]
theorem ioRegOf_ly : ioRegOf 0xFF44 = .ly := by simp [ioRegOf, deviceRegAt]
theorem ioRegOf_lyc : ioRegOf 0xFF45 = .lyc := by simp [ioRegOf, deviceRegAt]
theorem ioRegOf_dma : ioRegOf 0xFF46 = .dma := by simp [ioRegOf, deviceRegAt]
theorem ioRegOf_bgp : ioRegOf 0xFF47 = .bgp := by simp [ioRegOf, deviceRegAt]
theorem ioRegOf_obp0 : ioRegOf 0xFF48 = .obp0 := by simp [ioRegOf, deviceRegAt]
theorem ioRegOf_obp1 : ioRegOf 0xFF49 = .obp1 := by simp [ioRegOf, deviceRegAt]
theorem ioRegOf_wy : ioRegOf 0xFF4A = .wy := by simp [ioRegOf, deviceRegAt]
theorem ioRegOf_wx : ioRegOf 0xFF4B = .wx := by simp [ioRegOf, deviceRegAt]
theorem ioRegOf_nr10 : ioRegOf 0xFF10 = .apu .nr10 := by simp [ioRegOf, apuRegAt]
theorem ioRegOf_nr11 : ioRegOf 0xFF11 = .apu .nr11 := by simp [ioRegOf, apuRegAt]
theorem ioRegOf_nr12 : ioRegOf 0xFF12 = .apu .nr12 := by simp [ioRegOf, apuRegAt]
theorem ioRegOf_nr13 : ioRegOf 0xFF13 = .apu .nr13 := by simp [ioRegOf, apuRegAt]
theorem ioRegOf_nr14 : ioRegOf 0xFF14 = .apu .nr14 := by simp [ioRegOf, apuRegAt]
theorem ioRegOf_nr21 : ioRegOf 0xFF16 = .apu .nr21 := by simp [ioRegOf, apuRegAt]
theorem ioRegOf_nr22 : ioRegOf 0xFF17 = .apu .nr22 := by simp [ioRegOf, apuRegAt]
theorem ioRegOf_nr23 : ioRegOf 0xFF18 = .apu .nr23 := by simp [ioRegOf, apuRegAt]
theorem ioRegOf_nr24 : ioRegOf 0xFF19 = .apu .nr24 := by simp [ioRegOf, apuRegAt]
theorem ioRegOf_nr30 : ioRegOf 0xFF1A = .apu .nr30 := by simp [ioRegOf, apuRegAt]
theorem ioRegOf_nr31 : ioRegOf 0xFF1B = .apu .nr31 := by simp [ioRegOf, apuRegAt]
theorem ioRegOf_nr32 : ioRegOf 0xFF1C = .apu .nr32 := by simp [ioRegOf, apuRegAt]
theorem ioRegOf_nr33 : ioRegOf 0xFF1D = .apu .nr33 := by simp [ioRegOf, apuRegAt]
theorem ioRegOf_nr34 : ioRegOf 0xFF1E = .apu .nr34 := by simp [ioRegOf, apuRegAt]
theorem ioRegOf_nr41 : ioRegOf 0xFF20 = .apu .nr41 := by simp [ioRegOf, apuRegAt]
theorem ioRegOf_nr42 : ioRegOf 0xFF21 = .apu .nr42 := by simp [ioRegOf, apuRegAt]
theorem ioRegOf_nr43 : ioRegOf 0xFF22 = .apu .nr43 := by simp [ioRegOf, apuRegAt]
theorem ioRegOf_nr44 : ioRegOf 0xFF23 = .apu .nr44 := by simp [ioRegOf, apuRegAt]
theorem ioRegOf_nr50 : ioRegOf 0xFF24 = .apu .nr50 := by simp [ioRegOf, apuRegAt]
theorem ioRegOf_nr51 : ioRegOf 0xFF25 = .apu .nr51 := by simp [ioRegOf, apuRegAt]
theorem ioRegOf_nr52 : ioRegOf 0xFF26 = .apu .nr52 := by simp [ioRegOf, apuRegAt]

theorem ioRegOf_waveRam {a : Word} (h1 : 0xFF30 ≤ a.toNat) (h2 : a.toNat ≤ 0xFF3F) : ioRegOf a = .wave (a.toNat - 0xFF30) := by
  have h3 : ¬ (0x10 ≤ a.toNat - 0xFF00 ∧ a.toNat - 0xFF00 < 0x30) := by omega
  have h4 : 0x30 ≤ a.toNat - 0xFF00 ∧ a.toNat - 0xFF00 < 0x40 := by omega
  have h5 : a.toNat - 0xFF00 - 0x30 = a.toNat - 0xFF30 := by omega
  simp only [ioRegOf, h3, h4, h5, if_false, if_true, and_self]

/-- A write of an APU register changes the APU alone. -/
theorem State.write_apuRegister (s : State) {a : Word} {r : ApuReg} (v : Byte) (ha : regionOf a = .io) (hr : ioRegOf a = .apu r) :
    s.write a v = { s with apu := s.apu.writeReg r v } := s.write_register v ha hr

theorem State.read_apuRegister (s : State) {a : Word} {r : ApuReg} (ha : regionOf a = .io) (hr : ioRegOf a = .apu r) :
    s.read a = s.apu.readReg r := s.read_register ha hr

/-- While the APU is on, every register but NR52 stores. -/
theorem Apu.writeReg_on {u : Apu} (h : u.on = true) {r : ApuReg} (hr : r ≠ .nr52) (v : Byte) : u.writeReg r v = u.storeReg r v := by
  unfold Apu.writeReg
  rw [if_neg hr, if_pos h]

theorem Apu.writeReg_off {u : Apu} (h : u.on = false) {r : ApuReg} (hr : r ≠ .nr52) (v : Byte) : u.writeReg r v = u := by
  unfold Apu.writeReg
  rw [if_neg hr, h]
  rfl

theorem Apu.writeReg_nr52 (u : Apu) (v : Byte) :
    u.writeReg .nr52 v = if v.getLsbD 7 = u.on then u else if v.getLsbD 7 then u.powerOn else u.powerOff := rfl

theorem Apu.readReg_on {u : Apu} (h : u.on = true) (r : ApuReg) : u.readReg r = u.stored r ||| r.mask := by
  unfold Apu.readReg
  rw [h]
  rfl

theorem Apu.readReg_off {u : Apu} (h : u.on = false) {r : ApuReg} (hr : r ≠ .nr52) : u.readReg r = r.mask := by
  unfold Apu.readReg
  simp [h, hr]

/-! What an envelope is after a store, a trigger and a clock: a store leaves in force what the last trigger put there (62_apu R424). -/

@[simp] theorem Envelope.store_runDir (e : Envelope) (v : Byte) : (e.store v).runDir = e.runDir := rfl
@[simp] theorem Envelope.store_runPeriod (e : Envelope) (v : Byte) : (e.store v).runPeriod = e.runPeriod := rfl
@[simp] theorem Envelope.store_vol (e : Envelope) (v : Byte) : (e.store v).vol = e.vol := rfl
@[simp] theorem Envelope.store_timer (e : Envelope) (v : Byte) : (e.store v).timer = e.timer := rfl
@[simp] theorem Envelope.trigger_runDir (e : Envelope) : e.trigger.runDir = e.dir := rfl
@[simp] theorem Envelope.trigger_runPeriod (e : Envelope) : e.trigger.runPeriod = e.period := rfl
@[simp] theorem Envelope.trigger_vol (e : Envelope) : e.trigger.vol = e.init := rfl

/-- A clock looks at what is in force and leaves the stored fields. -/
theorem Envelope.clock_stored (e : Envelope) :
    e.clock.init = e.init ∧ e.clock.dir = e.dir ∧ e.clock.period = e.period ∧ e.clock.runDir = e.runDir ∧
      e.clock.runPeriod = e.runPeriod := by
  unfold Envelope.clock
  split
  · exact ⟨rfl, rfl, rfl, rfl, rfl⟩
  · split <;> exact ⟨rfl, rfl, rfl, rfl, rfl⟩

/-- A store of NRx2 changes nothing that the clocks before the next trigger look at. -/
theorem Envelope.clock_store (e : Envelope) (v : Byte) : (e.store v).clock = (e.clock).store v := by
  unfold Envelope.clock Envelope.store
  dsimp only
  split
  · rfl
  · split <;> rfl

/-- `freq[7:0]` stored, in numbers. -/
theorem storeFreqLow_eq (f : BitVec 11) (v : Byte) : storeFreqLow f v = BitVec.ofNat 11 (f.toNat / 256 * 256 + v.toNat) := by
  apply BitVec.eq_of_toNat_eq
  have hf := f.isLt
  have hv := v.isLt
  unfold storeFreqLow
  rw [BitVec.toNat_append, BitVec.extractLsb'_toNat, BitVec.toNat_ofNat, Nat.shiftRight_eq_div_pow, ← Nat.shiftLeft_add_eq_or_of_lt hv,
    Nat.shiftLeft_eq]
  omega

/-- `freq[10:8]` stored, in numbers. -/
theorem storeFreqHigh_eq (f : BitVec 11) (v : Byte) : storeFreqHigh f v = BitVec.ofNat 11 (v.toNat % 8 * 256 + f.toNat % 256) := by
  apply BitVec.eq_of_toNat_eq
  have hlt : (f.extractLsb' 0 8).toNat < 2 ^ 8 := (f.extractLsb' 0 8).isLt
  unfold storeFreqHigh
  rw [BitVec.toNat_append, ← Nat.shiftLeft_add_eq_or_of_lt hlt, BitVec.extractLsb'_toNat, BitVec.extractLsb'_toNat, BitVec.toNat_ofNat,
    Nat.shiftLeft_eq, Nat.shiftRight_zero, Nat.shiftRight_zero]
  omega

/-- `sweep_calc()` leaves channel 1 running, in numbers: a decrease always does. -/
theorem Sweep.fits_eq (w : Sweep) :
    w.fits = (w.negate || decide (w.shadow.toNat + w.shadow.toNat / 2 ^ w.shift.toNat ≤ 2047)) := by
  have hs := w.shadow.isLt
  unfold Sweep.fits Sweep.next
  rw [Nat.shiftRight_eq_div_pow]
  cases w.negate
  · simp
  · have hd := Nat.sub_le w.shadow.toNat (w.shadow.toNat / 2 ^ w.shift.toNat)
    simp only [if_true, Bool.true_or, decide_eq_true_eq]
    exact hd.trans (Nat.le_of_lt_succ hs)

end Sys2Proof.Machine
end

