-- ==== Sys2Proof/Laws/Write.lean ====
section
/-! SUPPORT. A bus write and an M-cycle commute with what an instruction does to the CPU's registers, and with the count of cycles. -/

namespace Sys2Proof.Machine

/-- A change of the CPU that neither reads nor writes `stopped`. -/
def KeepsStopped (g : Cpu → Cpu) : Prop := ∀ (c : Cpu) (b : Bool), g { c with stopped := b } = { g c with stopped := b }

theorem KeepsStopped.stopped {g : Cpu → Cpu} (h : KeepsStopped g) (c : Cpu) : (g c).stopped = c.stopped := by
  have e : g c = { g c with stopped := c.stopped } := h c c.stopped
  calc (g c).stopped = ({ g c with stopped := c.stopped } : Cpu).stopped := congrArg Cpu.stopped e
    _ = c.stopped := rfl

theorem State.joypadEdgeCheck_updateCpu {g : Cpu → Cpu} (h : KeepsStopped g) (s : State) :
    (s.setCpu (g s.cpu)).joypadEdgeCheck = s.joypadEdgeCheck.setCpu (g s.joypadEdgeCheck.cpu) := by
  have e : ({ g s.cpu with stopped := (g s.cpu).stopped && !s.joypad.falls } : Cpu) =
      g { s.cpu with stopped := s.cpu.stopped && !s.joypad.falls } := by
    rw [h.stopped s.cpu]
    exact (h s.cpu _).symm
  exact congrArg s.joypadEdgeCheck.setCpu e

theorem State.rawRead_setCpu (s : State) (c : Cpu) (a : Nat) : (s.setCpu c).rawRead a = s.rawRead a := rfl

theorem State.writeIo_updateCpu {g : Cpu → Cpu} (h : KeepsStopped g) (s : State) (r : IoReg) (v : Byte) :
    (s.setCpu (g s.cpu)).writeIo r v = (s.writeIo r v).setCpu (g (s.writeIo r v).cpu) := by
  cases r with
  | p1 => exact State.joypadEdgeCheck_updateCpu h { s with joypad := { s.joypad with p1Sel := v.extractLsb' 4 2 } }
  | _ => rfl

/-- A write before or after a change of the registers. -/
theorem State.write_updateCpu {g : Cpu → Cpu} (h : KeepsStopped g) (s : State) (a : Word) (v : Byte) :
    (s.setCpu (g s.cpu)).write a v = (s.write a v).setCpu (g (s.write a v).cpu) := by
  unfold State.write
  cases regionOf a with
  | io => exact State.writeIo_updateCpu h s _ v
  | _ => rfl

theorem State.writeIo_setCycles (s : State) (n : Nat) (r : IoReg) (v : Byte) :
    State.writeIo { s with cycles := n } r v = { s.writeIo r v with cycles := n } := by
  cases r <;> rfl

/-- A write before or after the count of cycles. -/
theorem State.write_setCycles (s : State) (n : Nat) (a : Word) (v : Byte) :
    State.write { s with cycles := n } a v = { s.write a v with cycles := n } := by
  unfold State.write
  cases regionOf a with
  | io => exact State.writeIo_setCycles s n _ v
  | _ => rfl

theorem keepsStopped_sp (a : Word) : KeepsStopped fun c => { c with sp := a } := fun _ _ => rfl
theorem keepsStopped_pc (a : Word) : KeepsStopped fun c => { c with pc := a } := fun _ _ => rfl
theorem keepsStopped_f (f : Byte) : KeepsStopped fun c => { c with f := f } := fun _ _ => rfl

theorem State.write_setSp (s : State) (x a : Word) (v : Byte) : (s.setSp x).write a v = (s.write a v).setSp x :=
  State.write_updateCpu (keepsStopped_sp x) s a v

theorem State.write_setPc (s : State) (x a : Word) (v : Byte) : (s.setPc x).write a v = (s.write a v).setPc x :=
  State.write_updateCpu (keepsStopped_pc x) s a v

theorem State.write_setF (s : State) (f : Byte) (a : Word) (v : Byte) : (s.setF f).write a v = (s.write a v).setF f :=
  State.write_updateCpu (keepsStopped_f f) s a v

theorem State.mcycle_setSp (s : State) (x : Word) : (s.setSp x).mcycle = s.mcycle.setSp x := by
  simp [State.setSp, State.mcycle_setCpu]

theorem State.mcycle_setPc (s : State) (x : Word) : (s.setPc x).mcycle = s.mcycle.setPc x := by
  simp [State.setPc, State.mcycle_setCpu]

theorem State.mcycle_setF (s : State) (f : Byte) : (s.setF f).mcycle = s.mcycle.setF f := by
  simp [State.setF, State.mcycle_setCpu]

/-- A store of a register's neighbour: the same store, then the change. -/
theorem State.store_setSp (s : State) (x a : Word) (v : Byte) : (s.setSp x).store a v = (s.store a v).setSp x := by
  unfold State.store
  rw [State.mcycle_setSp, State.write_setSp]

theorem State.store_setF (s : State) (f : Byte) (a : Word) (v : Byte) : (s.setF f).store a v = (s.store a v).setF f := by
  unfold State.store
  rw [State.mcycle_setF, State.write_setF]

/-- All that a push does (41_load16 R184): two stores, and SP down by 2. -/
theorem State.push16_eq (s : State) (v : Word) :
    s.push16 v = ((s.store (s.cpu.sp - 1) (hiByte v)).store (s.cpu.sp - 2) (loByte v)).setSp (s.cpu.sp - 2) := by
  have e : s.cpu.sp - 1 - 1 = s.cpu.sp - 2 := by bv_omega
  have h1 : s.pushByte (hiByte v) = (s.store (s.cpu.sp - 1) (hiByte v)).setSp (s.cpu.sp - 1) := State.store_setSp ..
  have h2 : (s.pushByte (hiByte v)).cpu.sp = s.cpu.sp - 1 := by rw [h1]; rfl
  unfold State.push16
  rw [State.pushByte, h2, e, State.store_setSp, h1, State.store_setSp]
  rfl

/-- All that a pop does (R185): two reads, and SP up by 2. -/
theorem State.pop16_eq (s : State) :
    s.pop16 = (wordOf (s.mcycle.mcycle.read (s.cpu.sp + 1)) (s.mcycle.read s.cpu.sp), s.mcycle.mcycle.setSp (s.cpu.sp + 2)) := by
  have e : s.cpu.sp + 1 + 1 = s.cpu.sp + 2 := by bv_omega
  unfold State.pop16 State.popByte
  simp only [State.mcycle_setSp]
  simp only [State.setSp_eq, State.setCpu_cpu, State.mcycle_cpu, State.read_setCpu, State.setCpu_setCpu, e]

end Sys2Proof.Machine
end

