-- ==== Sys2Proof/Laws/Ops.lean ====
section
/-! SUPPORT. One equation per shared operation, in numbers and without its helpers, for the provers to cite instead of unfolding it: the flag
computations, the operands, the stack, the jumps and calls. -/

namespace Sys2Proof.Machine

theorem flagsByte_eq (z n h c : Bool) : flagsByte z n h c = flagValue z n h c := by revert z n h c; decide

theorem maskF_eq (v : Byte) : maskF v = BitVec.ofNat 8 (v.toNat / 16 * 16) := by revert v; decide

theorem ioPage_eq (n : Byte) : ioPage n = BitVec.ofNat 16 (0xFF00 + n.toNat) := by
  have h := n.isLt
  have e : (0xFF : Byte).toNat = 255 := rfl
  apply BitVec.eq_of_toNat_eq
  rw [ioPage, toNat_wordOf, BitVec.toNat_ofNat]
  omega

theorem eq_zero_iff_toNat (v : Byte) : (v = 0) = (v.toNat = 0) :=
  propext ⟨fun h => h ▸ rfl, fun h => BitVec.eq_of_toNat_eq h⟩

theorem spPlus_eq (sp : Word) (e : Byte) : spPlus sp e = BitVec.ofInt 16 ((sp.toNat : Int) + e.toInt) := by
  rw [spPlus, BitVec.ofInt_add]
  congr 1
  simp

theorem addWith_eq (a s : Byte) (c : Bool) :
    addWith a s c =
      { value := BitVec.ofNat 8 (a.toNat + s.toNat + c.toNat)
        f := flagValue (decide ((a.toNat + s.toNat + c.toNat) % 256 = 0)) false
          (decide (a.toNat % 16 + s.toNat % 16 + c.toNat > 0x0F)) (decide (a.toNat + s.toNat + c.toNat > 0xFF)) } := by
  simp only [addWith, flagsByte_eq, eq_zero_iff_toNat, BitVec.toNat_ofNat]

theorem subWith_eq (a s : Byte) (c : Bool) :
    subWith a s c =
      { value := BitVec.ofNat 8 (a.toNat + 512 - s.toNat - c.toNat)
        f := flagValue (decide ((a.toNat + 512 - s.toNat - c.toNat) % 256 = 0)) true
          (decide (a.toNat % 16 < s.toNat % 16 + c.toNat)) (decide (a.toNat < s.toNat + c.toNat)) } := by
  have ha := a.isLt
  have hs := s.isLt
  have hc : c.toNat < 2 := by cases c <;> decide
  have e : BitVec.ofInt 8 ((a.toNat : Int) - s.toNat - c.toNat) = BitVec.ofNat 8 (a.toNat + 512 - s.toNat - c.toNat) := by
    apply BitVec.eq_of_toNat_eq
    rw [BitVec.toNat_ofInt, BitVec.toNat_ofNat]
    omega
  simp only [subWith, flagsByte_eq, eq_zero_iff_toNat, e, BitVec.toNat_ofNat]

theorem incResult_eq (v f : Byte) :
    incResult v f =
      { value := BitVec.ofNat 8 (v.toNat + 1)
        f := flagValue (decide (v.toNat = 255)) false (decide (v.toNat % 16 = 15)) (cFlag f) } := by
  have e : ∀ v : Byte, v + 1 = BitVec.ofNat 8 (v.toNat + 1) ∧ (v + 1 = 0 ↔ v.toNat = 255) ∧ (v &&& 0x0F = 0x0F ↔ v.toNat % 16 = 15) := by
    decide
  obtain ⟨h1, h2, h3⟩ := e v
  simp only [incResult, flagsByte_eq, h2, h3]
  rw [h1]

theorem decResult_eq (v f : Byte) :
    decResult v f =
      { value := BitVec.ofNat 8 (v.toNat + 255)
        f := flagValue (decide (v.toNat = 1)) true (decide (v.toNat % 16 = 0)) (cFlag f) } := by
  have e : ∀ v : Byte, v - 1 = BitVec.ofNat 8 (v.toNat + 255) ∧ (v - 1 = 0 ↔ v.toNat = 1) ∧ (v &&& 0x0F = 0x00 ↔ v.toNat % 16 = 0) := by
    decide
  obtain ⟨h1, h2, h3⟩ := e v
  simp only [decResult, flagsByte_eq, h2, h3]
  rw [h1]

@[simp] theorem State.store_cfg (s : State) (a : Word) (v : Byte) : (s.store a v).cfg = s.cfg := by simp [State.store]

@[simp] theorem State.store_cycles (s : State) (a : Word) (v : Byte) : (s.store a v).cycles = s.cycles + 4 := by simp [State.store]

/-- A store under `ACCESS_TIMING = instruction`: the write, and 4 T-cycles counted. -/
theorem State.store_instruction (s : State) (h : s.cfg.accessTiming = .instruction) (a : Word) (v : Byte) :
    s.store a v = { s.write a v with cycles := s.cycles + 4 } := by
  rw [State.store, State.mcycle_instruction s h, State.write_setCycles]

@[simp] theorem State.read_awake (s : State) (a : Word) : s.awake.read a = s.read a := by
  unfold State.read
  cases regionOf a with
  | io =>
    show s.awake.readIo (ioRegOf a) = s.readIo (ioRegOf a)
    cases ioRegOf a <;> rfl
  | _ => rfl

/-- `mcycles` under `ACCESS_TIMING = instruction` only counts. -/
theorem State.mcycles_instruction (n : Nat) (s : State) (h : s.cfg.accessTiming = .instruction) :
    s.mcycles n = { s with cycles := s.cycles + 4 * n } := by
  induction n generalizing s with
  | zero => rfl
  | succ n ih =>
    have e : s.cycles + 4 + 4 * n = s.cycles + 4 * (n + 1) := by omega
    rw [State.mcycles, State.mcycle_instruction s h, ← e]
    exact ih { s with cycles := s.cycles + 4 } h

theorem State.Effects.cfg_eq {s t : State} (h : s.Effects t) : t.cfg = s.cfg := by
  induction h with
  | start => rfl
  | setCpu _ _ ih => exact ih
  | mcycle _ ih => simpa using ih
  | write _ _ _ ih => simpa using ih

/-- All that a read-modify-write of a register does. -/
theorem State.modify_reg (s : State) (r : Reg8) (g : Byte → Byte → Flagged) :
    s.modify (.reg r) g = s.setCpu ({ s.cpu with f := (g (s.cpu.get r) s.cpu.f).f }.set r (g (s.cpu.get r) s.cpu.f).value) := rfl

/-- All that a read-modify-write of (HL) does: a read, a store, the flags. -/
theorem State.modify_atHL (s : State) (g : Byte → Byte → Flagged) :
    s.modify .atHL g =
      ((s.mcycles 2).write s.cpu.hl (g (s.mcycle.read s.cpu.hl) s.cpu.f).value).setF (g (s.mcycle.read s.cpu.hl) s.cpu.f).f := by
  have e : ∀ f, (s.mcycle.setF f).cpu.hl = s.cpu.hl := by intro f; simp [State.setF, Cpu.hl]
  show (s.mcycle.setF _).store (s.mcycle.setF _).cpu.hl _ = _
  rw [State.store_setF, e]
  rfl

/-- An ALU operation, whatever the form of its operand. -/
theorem exec_aluForm (op : AluOp) (i : Instr) (s u : State) (v : Byte) (h : AluForm op i s u v) :
    exec i s = .next (u.setCpu { s.cpu with a := (aluResult op s.cpu.a v s.cpu.f).value, f := (aluResult op s.cpu.a v s.cpu.f).f }) := by
  rcases h with ⟨r, rfl, rfl, rfl⟩ | ⟨rfl, rfl, rfl⟩ | ⟨rfl, rfl⟩
  · rw [exec_family_alu]
    rfl
  · rw [exec_family_alu]
    simp [State.aluOperand, State.readOperand, State.aluValue]
  · rw [exec_family_aluImm]
    rfl

/-- All that a call does. -/
theorem State.call_eq (s : State) (target : Word) :
    s.call target =
      ((s.mcycle.store (s.cpu.sp - 1) (hiByte s.cpu.pc)).store (s.cpu.sp - 2) (loByte s.cpu.pc)).setCpu
        { ((s.mcycle.store (s.cpu.sp - 1) (hiByte s.cpu.pc)).store (s.cpu.sp - 2) (loByte s.cpu.pc)).cpu with
          sp := s.cpu.sp - 2
          pc := target } := by
  rw [State.call, State.push16_eq]
  simp

/-- All that a return does. -/
theorem State.ret_eq (s : State) :
    s.ret = (s.mcycles 3).setCpu
      { s.cpu with sp := s.cpu.sp + 2, pc := wordOf ((s.mcycles 2).read (s.cpu.sp + 1)) (s.mcycle.read s.cpu.sp) } := by
  rw [State.ret, State.pop16_eq]
  simp [State.mcycles, State.mcycle_setCpu]

/-- All that taking an interrupt does after its acknowledgement (60_exceptions R326): two stores, SP, PC, two internal M-cycles. -/
theorem State.takeInterrupt_eq (s u w : State) (k : Source)
    (hu : u = { s with ints := s.ints.acknowledge k, cpu := { s.cpu with ime := false, eiPending := false } })
    (hw : w = (u.mcycle.store (u.cpu.sp - 1) (hiByte u.cpu.pc)).store (u.cpu.sp - 2) (loByte u.cpu.pc)) :
    s.takeInterrupt k = w.mcycle.setCpu { w.cpu with sp := u.cpu.sp - 2, pc := k.vector } := by
  rw [State.takeInterrupt, ← hu, State.push16_eq, State.mcycle_cpu, ← hw, State.mcycle_setSp]
  simp

theorem shiftValue_eq (op : ShiftOp) (v : Byte) (c : Bool) :
    shiftValue op v c = (BitVec.ofNat 8 (shiftByRule op v.toNat c.toNat).1, (shiftByRule op v.toNat c.toNat).2) := by
  revert v c
  cases op <;> decide

theorem shiftByRule_lt (op : ShiftOp) (v : Byte) (c : Bool) : (shiftByRule op v.toNat c.toNat).1 < 256 := by
  revert v c
  cases op <;> decide

end Sys2Proof.Machine
end

