-- ==== Sys2Proof/Tests/Slice0.lean ====
section
/-! SUPPORT. Tests: the refusals of the well-formedness checks, decodings, one step or one operation at a time with the expected values of
spec/95_test_vectors.md (the row is named in each docstring), and for every statement of Obligations.lean a state that meets its hypotheses. -/

namespace Sys2Proof.Tests

open Sys2Proof Sys2Proof.Machine

/-- The answer is a next state with the property. -/
def nextWith (o : Answer) (p : State → Bool) : Bool :=
  match o with
  | .next t => p t
  | .fault _ => false
  | .refused _ => false

theorem nextWith_next {o : Answer} {p : State → Bool} (h : nextWith o p = true) : ∃ t, o = .next t ∧ p t = true := by
  cases o with
  | next t => exact ⟨t, rfl, h⟩
  | fault f => cases h
  | refused r => cases h

/-- The reset state with a CPU. -/
def withCpu (f : Cpu → Cpu) : State := State.reset.setCpu (f State.reset.cpu)

/-- One step of a table word placed at PC. -/
def run (s : State) (nbits w : Nat) (p : State → Bool) : Bool := nextWith (step (s.withFetchWord nbits w)) p

/-- A register of the result, F, and the cycles. -/
def result (r : Reg8) (v f : Byte) (cycles : Nat) (t : State) : Bool :=
  decide (t.cpu.get r = v) && decide (t.cpu.f = f) && decide (t.cycles = cycles)

/-! ### Well-formedness -/

theorem test_prefixCb_is_no_instruction : Instr.prefixCb.wellFormed = false := by decide
theorem test_mode3Len_171_refused : { Config.default with mode3Len := 171 }.wellFormed = false := by decide
theorem test_mode3Len_290_refused : { Config.default with mode3Len := 290 }.wellFormed = false := by decide
theorem test_samplePeriod_0_refused : { Config.default with samplePeriod := 0 }.wellFormed = false := by decide
theorem test_default_accepted : Config.default.wellFormed = true := by decide

/-! ### Decoding: the words of every row stand in Laws/Decode.lean; here the numbering of the table's words and the refusals -/

theorem test_table_word_one_byte : decodeTableWord 8 0x76 = some .halt := by decide
theorem test_table_word_operand_zero : decodeTableWord 8 0x3E = some (.ld_a_n 0) := by decide
theorem test_table_word_prefixed : decodeTableWord 16 0xCB2C = some .sra_h := by decide
theorem test_table_word_prefix : decodeTableWord 8 0xCB = some .prefixCb := by decide
theorem test_decode_missing_byte : decode [0xC3, 0x23] = .error (.missingOperand 0xC3) := rfl
theorem test_decode_low_byte_first : decode [0xC3, 0x23, 0xC1] = .ok (.jp_nn 0xC123, []) := rfl

/-! ### Loads and the stack (95_test_vectors 2.8) -/

/-- B=22 C=33 HL=C1FF SP=DFF0 A=11 F=50, a byte of work RAM. -/
def loads (a : Word) (v : Byte) : State :=
  (withCpu fun c => { c with a := 0x11, f := 0x50, b := 0x22, c := 0x33, h := 0xC1, l := 0xFF, sp := 0xDFF0 }).write a v

theorem test_ld_b_c : run (loads 0xC1FF 0x5A) 8 0x41 (result .b 0x33 0x50 4) = true := by decide
theorem test_ld_h_atHL : run (loads 0xC1FF 0x5A) 8 0x66 (result .h 0x5A 0x50 8) = true := by decide
theorem test_ld_atHL_l : run (loads 0xC1FF 0x5A) 8 0x75 (fun t => decide (t.read 0xC1FF = 0xFF ∧ t.cycles = 8)) = true := by decide
theorem test_ld_atHL_n : run (loads 0xC1FF 0x5A) 16 0xA536 (fun t => decide (t.read 0xC1FF = 0xA5 ∧ t.cycles = 12)) = true := by decide
theorem test_ld_a_atNN : run (loads 0xC210 0x77) 24 0xC210FA (result .a 0x77 0x50 16) = true := by decide
theorem test_ldh_a_atN : run (loads 0xFF90 0x42) 16 0x90F0 (result .a 0x42 0x50 12) = true := by decide
theorem test_ld_a_atHLinc : run (loads 0xC1FF 0x5A) 8 0x2A (fun t => decide (t.cpu.a = 0x5A ∧ t.cpu.hl = 0xC200)) = true := by decide
theorem test_ld_atHLdec_a : run (loads 0xC1FF 0x5A) 8 0x32 (fun t => decide (t.read 0xC1FF = 0x11 ∧ t.cpu.hl = 0xC1FE)) = true := by
  decide
theorem test_ld_bc_nn : run (loads 0xC000 0) 24 0x123401 (fun t => decide (t.cpu.bc = 0x1234 ∧ t.cycles = 12)) = true := by decide
theorem test_ld_atNN_sp :
    run (loads 0xC000 0) 24 0xC30008 (fun t => decide (t.read 0xC300 = 0xF0 ∧ t.read 0xC301 = 0xDF ∧ t.cycles = 20)) = true := by decide
theorem test_push_af :
    run (loads 0xC000 0) 8 0xF5 (fun t => decide (t.cpu.sp = 0xDFEE ∧ t.read 0xDFEF = 0x11 ∧ t.read 0xDFEE = 0x50 ∧ t.cycles = 16)) = true := by
  decide
theorem test_pop_af :
    run ((loads 0xDFF0 0xFF).write 0xDFF1 0x12) 8 0xF1
      (fun t => decide (t.cpu.a = 0x12 ∧ t.cpu.f = 0xF0 ∧ t.cpu.sp = 0xDFF2 ∧ t.cycles = 12)) = true := by decide

/-! ### Arithmetic (95_test_vectors 2.1 to 2.5) -/

/-- A and F. -/
def accFlags (a f : Byte) : State := withCpu fun c => { c with a := a, f := f }

theorem test_add_80_80 : run (accFlags 0x80 0x00) 16 0x80C6 (result .a 0x00 0x90 8) = true := by decide
theorem test_adc_carry_in : run (accFlags 0x0F 0x10) 16 0x00CE (result .a 0x10 0x20 8) = true := by decide
theorem test_sub_borrow : run (accFlags 0x00 0x00) 16 0x01D6 (result .a 0xFF 0x70 8) = true := by decide
theorem test_sbc_borrow_in : run (accFlags 0x00 0x10) 16 0xFFDE (result .a 0x00 0xF0 8) = true := by decide
theorem test_and : run (accFlags 0x3A 0x00) 16 0xC6E6 (result .a 0x02 0x20 8) = true := by decide
theorem test_xor : run (accFlags 0x3A 0x00) 16 0xC6EE (result .a 0xFC 0x00 8) = true := by decide
theorem test_or : run (accFlags 0x3A 0x00) 16 0xC6F6 (result .a 0xFE 0x00 8) = true := by decide
theorem test_cp : run (accFlags 0x10 0x00) 16 0x01FE (result .a 0x10 0x60 8) = true := by decide
theorem test_inc_b : run (withCpu fun c => { c with b := 0xFF, f := 0x10 }) 8 0x04 (result .b 0x00 0xB0 4) = true := by decide
theorem test_dec_b : run (withCpu fun c => { c with b := 0x10, f := 0x00 }) 8 0x05 (result .b 0x0F 0x60 4) = true := by decide
theorem test_daa_after_add : run (accFlags 0x9A 0x00) 8 0x27 (result .a 0x00 0x90 4) = true := by decide
theorem test_daa_after_sub : run (accFlags 0x9A 0x70) 8 0x27 (result .a 0x34 0x50 4) = true := by decide
theorem test_cpl : run (accFlags 0x35 0x10) 8 0x2F (result .a 0xCA 0x70 4) = true := by decide
theorem test_ccf : run (accFlags 0x35 0xF0) 8 0x3F (result .a 0x35 0x80 4) = true := by decide
theorem test_add_hl_bc :
    run (withCpu fun c => { c with h := 0x12, l := 0x34, b := 0x0F, c := 0xCC, f := 0x80 }) 8 0x09
      (fun t => decide (t.cpu.hl = 0x2200 ∧ t.cpu.f = 0xA0 ∧ t.cycles = 8)) = true := by decide
theorem test_add_sp_minus_1 :
    run (withCpu fun c => { c with sp := 0x0000 }) 16 0xFFE8 (fun t => decide (t.cpu.sp = 0xFFFF ∧ t.cpu.f = 0x00 ∧ t.cycles = 16)) = true := by
  decide
theorem test_ld_hl_sp_plus_8 :
    run (withCpu fun c => { c with sp := 0xFFF8 }) 16 0x08F8 (fun t => decide (t.cpu.hl = 0x0000 ∧ t.cpu.f = 0x30 ∧ t.cycles = 12)) = true := by
  decide
theorem test_dec_sp : run (withCpu fun c => { c with sp := 0x0000 }) 8 0x3B (fun t => decide (t.cpu.sp = 0xFFFF ∧ t.cycles = 8)) = true := by
  decide

/-! ### Rotates, shifts and bits (95_test_vectors 2.6, 2.7) -/

theorem test_rlca : run (accFlags 0x85 0x00) 8 0x07 (result .a 0x0B 0x10 4) = true := by decide
theorem test_rra : run (accFlags 0x01 0x00) 8 0x1F (result .a 0x00 0x10 4) = true := by decide
theorem test_rl_b : run (withCpu fun c => { c with b := 0x80, f := 0x00 }) 16 0xCB10 (result .b 0x00 0x90 8) = true := by decide
theorem test_sra_b : run (withCpu fun c => { c with b := 0x85, f := 0x00 }) 16 0xCB28 (result .b 0xC2 0x10 8) = true := by decide
theorem test_swap_atHL :
    run ((withCpu fun c => { c with h := 0xC1, l := 0x00, f := 0x10 }).write 0xC100 0x81) 16 0xCB36
      (fun t => decide (t.read 0xC100 = 0x18 ∧ t.cpu.f = 0x00 ∧ t.cycles = 16)) = true := by decide
theorem test_bit_3_e : run (withCpu fun c => { c with e := 0xF7, f := 0x10 }) 16 0xCB5B (result .e 0xF7 0xB0 8) = true := by decide
theorem test_res_7_e : run (withCpu fun c => { c with e := 0xFF, f := 0xF0 }) 16 0xCBBB (result .e 0x7F 0xF0 8) = true := by decide
theorem test_set_0_e : run (withCpu fun c => { c with e := 0x00, f := 0xF0 }) 16 0xCBC3 (result .e 0x01 0xF0 8) = true := by decide

/-! ### Control flow and CPU control (95_test_vectors 2.9, 2.10), code at 0xC000 -/

/-- PC=C000 SP=DFF0 and the return address C234 on the stack. -/
def flow (f : Byte) : State :=
  ((withCpu fun c => { c with pc := 0xC000, sp := 0xDFF0, f := f }).write 0xDFF0 0x34).write 0xDFF1 0xC2

theorem test_jp_z_taken : run (flow 0x80) 24 0xC123CA (fun t => decide (t.cpu.pc = 0xC123 ∧ t.cycles = 16)) = true := by decide
theorem test_jp_nz_not_taken : run (flow 0x80) 24 0xC123C2 (fun t => decide (t.cpu.pc = 0xC003 ∧ t.cycles = 12)) = true := by decide
theorem test_jr_minus_128 : run (flow 0x00) 16 0x8018 (fun t => decide (t.cpu.pc = 0xBF82 ∧ t.cycles = 12)) = true := by decide
theorem test_call :
    run (flow 0x00) 24 0xC123CD
      (fun t => decide (t.cpu.pc = 0xC123 ∧ t.cpu.sp = 0xDFEE ∧ t.read 0xDFEF = 0xC0 ∧ t.read 0xDFEE = 0x03 ∧ t.cycles = 24)) = true := by
  decide
theorem test_ret_c_not_taken : run (flow 0x00) 8 0xD8 (fun t => decide (t.cpu.pc = 0xC001 ∧ t.cpu.sp = 0xDFF0 ∧ t.cycles = 8)) = true := by
  decide
theorem test_reti :
    run (flow 0x00) 8 0xD9 (fun t => decide (t.cpu.pc = 0xC234 ∧ t.cpu.sp = 0xDFF2 ∧ t.cpu.ime = true ∧ t.cycles = 16)) = true := by decide
theorem test_rst_28 : run (flow 0x00) 8 0xEF (fun t => decide (t.cpu.pc = 0x0028 ∧ t.read 0xDFEE = 0x01 ∧ t.cycles = 16)) = true := by decide
theorem test_ei_delay : run (flow 0x00) 8 0xFB (fun t => decide (t.cpu.ime = false ∧ t.cpu.eiPending = true ∧ t.cycles = 4)) = true := by decide
theorem test_halt_bug :
    run { flow 0x00 with ints := { ie := 0x04, flags := 0x04 } } 8 0x76
      (fun t => decide (t.cpu.halted = false ∧ t.cpu.haltBug = true ∧ t.cpu.pc = 0xC001)) = true := by decide
theorem test_undefined_d3_is_nop : run (flow 0x00) 8 0xD3 (fun t => decide (t.cpu.pc = 0xC001 ∧ t.cycles = 4)) = true := by decide
theorem test_stop : run (flow 0x00) 16 0x0010 (fun t => decide (t.cpu.stopped = true ∧ t.cpu.pc = 0xC002 ∧ t.cycles = 4)) = true := by decide

/-- The halt bug reads the next byte twice (2.10: HALT; LD A,14h with the bug loads 3E). -/
theorem test_halt_bug_operand :
    nextWith (step ((((flow 0x00).setCpu { (flow 0x00).cpu with haltBug := true }).write 0xC000 0x3E).write 0xC001 0x14))
      (fun t => decide (t.cpu.a = 0x3E ∧ t.cpu.pc = 0xC001)) = true := by decide

/-! ### Interrupts (95_test_vectors 2.11) -/

/-- PC=C000 SP=DFF0 IME=1. -/
def interrupted (ie : Byte) (flags : BitVec 5) : State :=
  { withCpu fun c => { c with pc := 0xC000, sp := 0xDFF0, ime := true } with ints := { ie := ie, flags := flags } }

theorem test_dispatch_vblank_first :
    nextWith (step (interrupted 0x1F 0x1F)) (fun t => decide (t.cpu.pc = 0x0040 ∧ t.ints.flags = 0x1E ∧ t.cycles = 20 ∧ t.cpu.ime = false)) =
      true := by decide +kernel
theorem test_dispatch_joypad :
    nextWith (step (interrupted 0x10 0x1F))
      (fun t => decide (t.cpu.pc = 0x0060 ∧ t.ints.flags = 0x0F ∧ t.read 0xDFEF = 0xC0 ∧ t.read 0xDFEE = 0x00 ∧ t.cpu.sp = 0xDFEE)) = true := by
  decide +kernel
theorem test_no_enabled_request :
    nextWith (step (interrupted 0x04 0x1B)) (fun t => decide (t.cpu.pc = 0xC001 ∧ t.ints.flags = 0x1B ∧ t.cycles = 4)) = true := by decide

/-! ### Devices (95_test_vectors 2.12 to 2.17) -/

/-- A timer with its edge detector settled. -/
def timerAt (div16 : Word) (tima tma : Byte) (tac : BitVec 3) : State :=
  let t : Timer := { div16 := div16, tima := tima, tma := tma, tac := tac, lastSig := false, reloadIn := none }
  { State.reset with timer := { t with lastSig := t.signal }, ints := { ie := 0, flags := 0 } }

theorem test_tima_after_16 : ((timerAt 0 0 0 5).advance 15).timer.tima = 0x00 ∧ ((timerAt 0 0 0 5).advance 16).timer.tima = 0x01 := by decide +kernel
theorem test_tima_reload_delay :
    ((timerAt 0 0xFF 0x23 5).advance 19).timer.tima = 0x00 ∧ ((timerAt 0 0xFF 0x23 5).advance 20).timer.tima = 0x23 ∧
      ((timerAt 0 0xFF 0x23 5).advance 20).ints.flags = 0x04 := by decide +kernel
theorem test_div_write_counts : ((timerAt 8 0x10 0 5).write 0xFF04 0).timer.tima = 0x11 ∧ ((timerAt 4 0x10 0 5).write 0xFF04 0).timer.tima = 0x10 := by
  decide
theorem test_tac_write_counts : ((timerAt 8 0x10 0 5).write 0xFF07 1).timer.tima = 0x11 ∧ ((timerAt 8 0x10 0 5).write 0xFF07 1).read 0xFF07 = 0xF9 := by
  decide
theorem test_stat_at_reset : State.reset.read 0xFF41 = 0x86 ∧ State.reset.read 0xFF44 = 0x00 := by decide
theorem test_vram_closed_in_mode_3 :
    State.read { State.reset with ppu := { State.reset.ppu with mode := .transfer } } 0x8000 = 0xFF ∧ State.reset.read 0xFE00 = 0xFF := by decide
/-- 61_ppu R406: the first eight pixels of the worked line. -/
theorem test_worked_line :
    (List.range 8).map
      (({ State.reset.ppu with vram := [(0x10, 0x3C), (0x11, 0x7E), (0x1800, 0x01)], bgp := 0xE4 } : Ppu).pixel [] · 0) =
      [0, 2, 3, 3, 3, 3, 2, 0] := by decide +kernel
/-- 62_apu R485 and 2.14: channel 2 to both sides, then to the left only. -/
theorem test_mixer :
    let s := (((State.reset.write 0xFF17 0xF0).write 0xFF16 0x80).write 0xFF18 0x00).write 0xFF19 0x87
    s.apu.mix = (7680, 7680) ∧ (s.write 0xFF25 0x20).apu.mix = (7680, 0) ∧ s.read 0xFF26 = 0xF3 := by decide
theorem test_trigger_with_dac_off : (State.reset.write 0xFF19 0x80).read 0xFF26 = 0xF1 := by decide
theorem test_apu_power_off :
    (State.reset.write 0xFF26 0).read 0xFF26 = 0x70 ∧ ((State.reset.write 0xFF26 0).write 0xFF12 0xF0).read 0xFF12 = 0x00 := by decide

/-- An MBC1 with 8 ROM banks, byte 0 of bank k being k, and 8 KiB of RAM. -/
def mbc1 : State :=
  { State.reset with
    cart :=
      { kind := .mbc1, battery := true, romSize := 0x20000, ramSize := 0x2000, ram := [], mbc := Mbc.reset,
        rom := [(0x4000, 1), (0x8000, 2), (0xC000, 3), (0x10000, 4), (0x14000, 5), (0x18000, 6), (0x1C000, 7)] } }

theorem test_mbc1_bank_wraps : mbc1.read 0x4000 = 0x01 ∧ (mbc1.write 0x2000 0x0D).read 0x4000 = 0x05 ∧ (mbc1.write 0x2000 0x08).read 0x4000 = 0x00 := by
  decide
theorem test_mbc1_bank_0_becomes_1 : (mbc1.write 0x2000 0x00).read 0x4000 = 0x01 := by decide
theorem test_mbc1_ram :
    mbc1.read 0xA000 = 0xFF ∧ ((mbc1.write 0x0000 0x0A).write 0xA000 0x5A).read 0xA000 = 0x5A ∧
      (((mbc1.write 0x0000 0x0A).write 0xA000 0x5A).write 0x0000 0x00).read 0xA000 = 0xFF := by decide
theorem test_joypad_right : ((State.reset.write 0xFF00 0x20).setJoypad 0x01).read 0xFF00 = 0xEE ∧
    ((State.reset.write 0xFF00 0x20).setJoypad 0x01).read 0xFF0F = 0xF1 := by decide
theorem test_joypad_other_group : ((State.reset.write 0xFF00 0x10).setJoypad 0x01).read 0xFF00 = 0xDF ∧
    ((State.reset.write 0xFF00 0x10).setJoypad 0x01).ints.flags = 0x01 := by decide
theorem test_dma_from_wram : ((State.reset.write 0xC19F 0x9F).write 0xFF46 0xC1).ppu.oam.read 0x9F = 0x9F := by decide
theorem test_echo : (State.reset.write 0xFDFF 0x66).read 0xDDFF = 0x66 := by decide

/-! ### Witnesses: for every statement of Obligations.lean with hypotheses, values that meet them -/

/-- A state other than reset, PC at 0x0150. -/
def base : State := State.reset.setPc 0x0150

theorem base_inv : base.Inv where
  cfg := by decide
  cpu := ⟨by decide, by decide⟩
  timer := ⟨fun _ h => (nomatch h), by decide⟩
  joypad := ⟨by decide⟩
  ppu :=
    { ly := by decide, dot := by decide, on := by decide, off := by decide, statLine := by decide, window := by decide
      windowBefore := by decide, vram := ⟨by decide, by decide⟩, oam := ⟨by decide, by decide⟩ }
  apu :=
    { fsCounter := by decide, sampleCounter := by decide, sweepTimer := by decide
      ch1 := ⟨by decide, by decide, ⟨by decide⟩⟩, ch2 := ⟨by decide, by decide, ⟨by decide⟩⟩
      ch3 := ⟨by decide, by decide, ⟨by decide, by decide⟩⟩, ch4 := ⟨by decide, by decide, ⟨by decide⟩⟩, off := by decide }
  cart := ⟨⟨by decide, by decide⟩, ⟨by decide, by decide⟩, by decide⟩
  wram := ⟨by decide, by decide⟩
  hram := ⟨by decide, by decide⟩

theorem nextWith_true {o : Answer} (h : nextWith o (fun _ => true) = true) : ∃ t, o = .next t :=
  (nextWith_next h).imp fun _ ht => ht.1

theorem test_witness_DecodeAndEncodeAgree :
    (Instr.ld_bc_nn 0xFFFF).wellFormed = true ∧ decode [0x01, 0xFF, 0xFF] = .ok (.ld_bc_nn 0xFFFF, []) := ⟨by decide, rfl⟩

theorem test_witness_EncodingsFollowTheTables : ((0xD3 : Byte), Instr.undef_d3) ∈ Instr.undefined ∧ ((0xFD : Byte), Instr.undef_fd) ∈ Instr.undefined := by
  decide

theorem test_witness_DecodeTakesTheListedLength :
    lengthByOpcode 0xC3 ≤ [(0x23 : Byte), 0xC1].length + 1 ∧ [(0x23 : Byte)].length + 1 < lengthByOpcode 0xC3 ∧ (0xC3 : Byte) ≠ 0xCB := by decide

theorem test_witness_StepRunsTheDecodedInstruction :
    ∃ (s : State) (i : Instr) (rest : List Byte),
      s.cfg.accessTiming = .instruction ∧ s.Executes ∧ s.cpu.haltBug = false ∧
      decode [s.read s.cpu.pc, s.read (s.cpu.pc + 1), s.read (s.cpu.pc + 2)] = .ok (i, rest) :=
  ⟨State.reset.withFetchWord 24 0xC123C3, .jp_nn 0xC123, [], by decide, by unfold State.Executes; decide, by decide, rfl⟩

/-- The halt bug is set and PC is at `LD A,n`. -/
def bugState : State := ((flow 0x00).setCpu { (flow 0x00).cpu with haltBug := true }).write 0xC000 0x3E

theorem test_witness_FetchTakesItsCyclesAndTheHaltBug :
    ∃ p : Word, bugState.cpu.haltBug = true ∧ bugState.Executes ∧ p = (if bugState.cpu.haltBug then bugState.cpu.pc else bugState.cpu.pc + 1) ∧
      decode
        [bugState.read bugState.cpu.pc, (if bugState.read bugState.cpu.pc = 0x10 then bugState.awake else bugState.awake.mcycles 1).read p,
         (bugState.awake.mcycles 2).read (p + 1)] = .ok (.ld_a_n 0x3E, [0x00]) := by
  have h1 : bugState.read bugState.cpu.pc = 0x3E := by decide
  have h2 : (bugState.awake.mcycles 1).read 0xC000 = 0x3E := by decide
  have h3 : (bugState.awake.mcycles 2).read (0xC000 + 1) = 0x00 := by decide
  refine ⟨0xC000, by decide, by unfold State.Executes; decide, by decide, ?_⟩
  rw [h1, if_neg (by decide), h2, h3]
  rfl

/-- The four branches of a step: stopped, idle, dispatch, an instruction. -/
def stoppedState : State := withCpu fun c => { c with stopped := true }
def idleState : State := withCpu fun c => { c with halted := true }

theorem test_witness_StepFollowsItsOrder :
    base.cfg.accessTiming = .instruction ∧ stoppedState.cpu.stopped = true ∧
    (idleState.cpu.stopped = false ∧ idleState.cpu.halted = true ∧ idleState.ints.pend = 0) ∧
    ((interrupted 0x10 0x1F).cpu.stopped = false ∧ (interrupted 0x10 0x1F).cpu.ime = true ∧ (interrupted 0x10 0x1F).ints.pend ≠ 0) ∧
    base.Executes := by
  unfold State.Executes
  decide

theorem test_witness_StepIsTotal : base.cfg.undefPolicy = .nop ∧ base.cfg.stopPolicy = .asSpecified := by decide

theorem test_witness_StepCostsFollowTheTable :
    (∃ t, step stoppedState = .next t) ∧ (∃ t, step idleState = .next t) ∧ (∃ t, step (interrupted 0x10 0x1F) = .next t) ∧
      ∃ t, step base = .next t :=
  ⟨nextWith_true (by decide), nextWith_true (by decide), nextWith_true (by decide), nextWith_true (by decide)⟩

/-- The two refusals, each under its policy. -/
theorem test_witness_OnlyThePoliciesRefuse :
    step (State.withFetchWord { State.reset with cfg := { Config.default with undefPolicy := .refuse } } 8 0xFD) = .refused (.undefinedOpcode 0xFD) ∧
    step (State.withFetchWord { State.reset with cfg := { Config.default with stopPolicy := .refuse } } 16 0x0010) = .refused .stopOpcode :=
  ⟨rfl, rfl⟩

theorem test_witness_ControlStateChanges :
    ((∃ t, step stoppedState = .next t) ∧ stoppedState.cpu.stopped = true) ∧
    ((∃ t, step idleState = .next t) ∧ idleState.cpu.stopped = false ∧ idleState.cpu.halted = true ∧ idleState.ints.pend = 0) ∧
    ((∃ t, step (interrupted 0x10 0x1F) = .next t) ∧ (interrupted 0x10 0x1F).cpu.stopped = false ∧ (interrupted 0x10 0x1F).cpu.ime = true ∧
      (interrupted 0x10 0x1F).ints.pend ≠ 0) ∧
    ((∃ t, step base = .next t) ∧ base.Executes) :=
  ⟨⟨nextWith_true (by decide), by decide⟩, ⟨nextWith_true (by decide), by decide⟩, ⟨nextWith_true (by decide), by decide⟩,
    nextWith_true (by decide), by unfold State.Executes; decide⟩

theorem test_witness_StepKeepsTheInvariant : base.Inv ∧ ∃ t, step base = .next t := ⟨base_inv, nextWith_true (by decide)⟩

theorem zeros_load (n : Nat) (h : 32768 ≤ n) : ∃ t, loadCartridge Config.default (List.replicate n 0) none = .ok t := by
  refine ⟨_, if_pos ?_⟩
  have hb : ∀ k, headerByte (List.replicate n 0) k = 0 := fun k => by simp [headerByte]
  simp only [validImage, hb, List.length_replicate, declaredRomSize]
  simp
  omega

theorem blank_loads : ∃ t, loadCartridge Config.default (List.replicate 32768 0) none = .ok t := zeros_load 32768 (Nat.le_refl _)

/-- A load that succeeds and one that fails; a run from a machine in the invariant; a call before the first load; a run whose answers do not end it. -/
theorem test_witness_HostCallsKeepTheInvariant :
    (Config.default.wellFormed = true ∧ Memory.Ok Config.default.initWram 0x2000 ∧ Memory.Ok Config.default.initHram 127 ∧
      ∃ t, loadCartridge Config.default (List.replicate 32768 0) none = .ok t) ∧ base.Inv ∧
    (∀ s : State, some base = some s → s.Inv) ∧ (∃ t, (runHost Config.default (some base) [.setJoypadState 0, .saveRam]).2 = some t) ∧
    (∃ e, loadCartridge Config.default [] none = .error e) ∧ (∃ t, step base = .next t) ∧
    (∀ rom save, HostCall.step ≠ .loadCartridge rom save) ∧
    ∃ (answers : List HostAnswer) (middle : Option State),
      runHost Config.default none [.loadCartridge [] none] = (answers, middle) ∧ ∀ a ∈ answers, a.ends = false :=
  ⟨⟨by decide, ⟨by decide, by decide⟩, ⟨by decide, by decide⟩, blank_loads⟩, base_inv, fun s h => by cases h; exact base_inv, ⟨_, rfl⟩,
    ⟨_, rfl⟩, nextWith_true (by decide), (by intro _ _ h; cases h), [HostAnswer.invalidRom], none, rfl, by decide⟩

/-- 70_reset R500: before the first successful load no call but `load_cartridge` is defined, and a failed load leaves the block without a state. -/
theorem test_run_before_load :
    runHost Config.default none [.loadCartridge [] none, .step, .frameReady] = ([.invalidRom, .noMachine], none) := rfl

/-- 61_ppu R405: no frame is there after reset; 60_exceptions R352: Right pressed with the directions selected requests the joypad interrupt. -/
theorem test_run_frame_and_joypad :
    (runHost Config.default (some base) [.frameReady, .setJoypadState 0x01]).1 = [.frame none, .joypadSet] ∧
      ((runHost Config.default (some base) [.frameReady, .setJoypadState 0x01]).2.map fun s => s.ints.flags.getLsbD 4) = some true := ⟨rfl, by decide⟩

theorem test_witness_StepLeavesTheCartridgeImage : ∃ t, step mbc1 = .next t := nextWith_true (by decide)

theorem test_witness_ResetValues : ∃ t, loadCartridge Config.default (List.replicate 32768 0) none = .ok t := blank_loads

theorem test_witness_ByteAndWordStores : ∃ w : State, w = base.mcycle.write base.cpu.hl base.cpu.a := ⟨_, rfl⟩

/-- The displacement -128 at SP = 0x0000. -/
theorem test_witness_WordLoadsAndStackPointer :
    ∃ (s : State) (e : Byte) (r : Word) (f : Byte),
      r = BitVec.ofInt 16 ((s.cpu.sp.toNat : Int) + e.toInt) ∧
      f = flagValue false false (decide (s.cpu.sp.toNat % 16 + e.toNat % 16 > 0x0F)) (decide (s.cpu.sp.toNat % 256 + e.toNat > 0xFF)) ∧
      r = 0xFF80 ∧ f = 0x00 := ⟨withCpu fun c => { c with sp := 0x0000 }, 0x80, _, _, rfl, rfl, by decide, by decide⟩

theorem test_witness_PushAndPop :
    ∃ (s w : State) (v : Word) (lo hi : Byte),
      v = wordOf s.cpu.a s.cpu.f ∧ w = State.write (State.write (s.mcycles 2) (s.cpu.sp - 1) (hiByte v)).mcycle (s.cpu.sp - 2) (loByte v) ∧
      lo = s.mcycle.read s.cpu.sp ∧ hi = (s.mcycles 2).read (s.cpu.sp + 1) := ⟨base, _, _, _, _, rfl, rfl, rfl, rfl⟩

/-- The lowest stack in work RAM: SP = 0xC002. -/
theorem test_witness_PushThenPop :
    ∃ s t u : State, (∀ a : Word, a = s.cpu.sp - 1 ∨ a = s.cpu.sp - 2 → regionOf a = .wram ∨ regionOf a = .hram) ∧
      exec (.push .af) s = .next t ∧ exec (.pop .af) t = .next u := by
  refine ⟨withCpu fun c => { c with sp := 0xC002 }, _, _, ?_, rfl, rfl⟩
  rintro a (rfl | rfl) <;> decide

theorem test_witness_AluOperations (op : AluOp) :
    AluForm op (.alu op (.reg .a)) base base base.cpu.a ∧ AluForm op (.alu op .atHL) base base.mcycle (base.mcycle.read base.cpu.hl) ∧
      AluForm op (.aluImm op 0xFF) base base 0xFF := ⟨.inl ⟨.a, rfl, rfl, rfl⟩, .inr (.inl ⟨rfl, rfl, rfl⟩), .inr (.inr ⟨rfl, rfl⟩)⟩

theorem test_witness_IncrementsAndDecrements :
    ∃ (n : Nat) (w w' : State), n = (base.mcycle.read base.cpu.hl).toNat ∧ w = (base.mcycles 2).write base.cpu.hl (BitVec.ofNat 8 (n + 1)) ∧
      w' = (base.mcycles 2).write base.cpu.hl (BitVec.ofNat 8 (n + 255)) := ⟨_, _, _, rfl, rfl, rfl⟩

theorem test_witness_DecimalAdjust :
    nFlag (accFlags 0x9A 0x30).cpu.f = false ∧ nFlag (accFlags 0x9A 0x70).cpu.f = true ∧ hFlag (accFlags 0x9A 0x70).cpu.f = true ∧
      cFlag (accFlags 0x9A 0x70).cpu.f = true := by decide

/-- 99 + 99 with a carry in. -/
theorem test_witness_DaaIsDecimal :
    ∃ (bcd : Nat → Byte) (s t u : State) (x y : Nat), (∀ k, bcd k = BitVec.ofNat 8 (16 * (k / 10) + k % 10)) ∧ x < 100 ∧ y < 100 ∧
      s.cpu.a = bcd x ∧ 1 = (cFlag s.cpu.f).toNat ∧ exec (.aluImm .adc (bcd y)) s = .next t ∧ exec .daa t = .next u :=
  ⟨fun k => BitVec.ofNat 8 (16 * (k / 10) + k % 10), accFlags 0x99 0x10, _, _, 99, 99, fun _ => rfl, by decide, by decide, by decide, by decide,
    rfl, rfl⟩

theorem test_witness_AccumulatorAndCarry : (accFlags 0xFF 0x10).cpu.a.toNat = 255 ∧ (cFlag (accFlags 0xFF 0x10).cpu.f).toNat = 1 := by decide

theorem test_witness_WordArithmetic : (0xFFFF : Nat) = ((withCpu fun c => { c with sp := 0xFFFF }).cpu.getPair .sp).toNat := by decide

theorem test_witness_RotatesAndShifts :
    ∃ (n v : Nat) (w : State), n = (base.mcycle.read base.cpu.hl).toNat ∧ v = (shiftByRule .srl n 1).1 ∧
      w = (base.mcycles 2).write base.cpu.hl (BitVec.ofNat 8 v) ∧ 1 = (cFlag base.cpu.f).toNat := ⟨_, _, _, rfl, rfl, rfl, by decide⟩

/-- The displacements -128 and 127. -/
theorem test_witness_Jumps :
    (0xBF80 : Word) = BitVec.ofInt 16 (((flow 0x00).cpu.pc.toNat : Int) + (0x80 : Byte).toInt) ∧
      (0xC07F : Word) = BitVec.ofInt 16 (((flow 0x00).cpu.pc.toNat : Int) + (0x7F : Byte).toInt) := by decide

theorem test_witness_CallsAndReturns :
    ∃ (w : State) (ra ra' : Word),
      w = State.write (State.write (base.mcycles 2) (base.cpu.sp - 1) (hiByte base.cpu.pc)).mcycle (base.cpu.sp - 2) (loByte base.cpu.pc) ∧
      ra = wordOf ((base.mcycles 2).read (base.cpu.sp + 1)) (base.mcycle.read base.cpu.sp) ∧
      ra' = wordOf ((base.mcycles 3).read (base.cpu.sp + 1)) ((base.mcycles 2).read base.cpu.sp) := ⟨_, _, _, rfl, rfl, rfl⟩

theorem test_witness_CpuControl :
    (∃ k : Source, (interrupted 0x10 0x1F).ints.ie.getLsbD k.index = true ∧ (interrupted 0x10 0x1F).ints.flags.getLsbD k.index = true) ∧
      base.cfg.stopPolicy = .asSpecified ∧ base.cfg.undefPolicy = .nop ∧ { Config.default with stopPolicy := .refuse }.stopPolicy = .refuse ∧
      { Config.default with undefPolicy := .refuse }.undefPolicy = .refuse ∧ ((0xDD : Byte), Instr.undef_dd) ∈ Instr.undefined :=
  ⟨⟨.joypad, by decide⟩, by decide⟩

theorem test_witness_FlagsFollowTheTable : Instr.daa.wellFormed = true ∧ (∃ t, exec .daa base = .next t) ∧ base.cpu.f &&& 0x0F = 0 :=
  ⟨by decide, ⟨_, rfl⟩, by decide⟩

theorem test_witness_RegisterFrame :
    Instr.ld_b_c.wellFormed = true ∧ (∃ t, exec .ld_b_c base = .next t) ∧ Reg8.a ∉ destinations .ld_b_c ∧ writesSp .ld_b_c = false ∧
      writesPc .ld_b_c = false ∧ Instr.ld_b_c ≠ .di ∧ Instr.ld_b_c ≠ .ei ∧ Instr.ld_b_c ≠ .reti ∧ Instr.ld_b_c ≠ .halt ∧
      ∀ x : Byte, Instr.ld_b_c ≠ .stop x := ⟨by decide, ⟨_, rfl⟩, by decide, by decide, by decide, by decide, by decide, by decide, by decide, nofun⟩

theorem test_witness_FrameOfTheRest :
    Instr.ret.wellFormed = true ∧ (∃ t, exec .ret base = .next t) ∧ storedAt .ret base = [] ∧ base.cfg.accessTiming = .instruction :=
  ⟨by decide, ⟨_, rfl⟩, by decide, by decide⟩

/-- The lowest stack in work RAM. -/
def lowStack : State := withCpu fun c => { c with sp := 0xC002 }

/-- A push at the bottom of work RAM, and the byte above it. -/
theorem test_witness_FrameOfStores :
    Instr.push_bc.wellFormed = true ∧ (∃ t, exec .push_bc lowStack = .next t) ∧ lowStack.cfg.accessTiming = .instruction ∧
      (∀ d ∈ storedAt .push_bc lowStack, (regionOf d).plain = true) ∧ ∀ d ∈ storedAt .push_bc lowStack, lowStack.cellOf 0xC002 ≠ lowStack.cellOf d := by
  have e : ∀ d ∈ storedAt .push_bc lowStack, d = 0xC001 ∨ d = 0xC000 := by
    rw [show storedAt .push_bc lowStack = [0xC001, 0xC000] from rfl]
    simp
  refine ⟨by decide, nextWith_true (by decide), by decide, fun d hd => ?_, fun d hd => ?_⟩
  · rcases e d hd with rfl | rfl <;> decide
  · rcases e d hd with rfl | rfl <;> decide

theorem test_witness_InterruptEntry :
    (interrupted 0x10 0x1F).cpu.stopped = false ∧ (interrupted 0x10 0x1F).cpu.ime = true ∧
      (interrupted 0x10 0x1F).ints.pend.getLsbD Source.joypad.index = true ∧
      (∀ j < Source.joypad.index, (interrupted 0x10 0x1F).ints.pend.getLsbD j = false) ∧ (∃ t, step (interrupted 0x10 0x1F) = .next t) ∧
      regionOf ((interrupted 0x10 0x1F).cpu.sp - 1) = .wram ∧ regionOf ((interrupted 0x10 0x1F).cpu.sp - 2) = .wram :=
  ⟨by decide, by decide, by decide, by decide, nextWith_true (by decide), by decide, by decide⟩

/-- EI with a request pending: interrupts off before it, a NOP after it, and then the request is taken. -/
def eiState : State :=
  { (flow 0x00).write 0xC000 0xFB with ints := { ie := 0x01, flags := 0x01 } }

theorem test_witness_EiDelay :
    eiState.Executes ∧ eiState.cpu.ime = false ∧ eiState.cpu.eiPending = false ∧ eiState.nextInstr = .ei ∧
      ∃ t : State, step eiState = .next t ∧ t.nextInstr ≠ .di ∧ ∃ u : State, step t = .next u ∧ u.cpu.stopped = false ∧ u.ints.pend ≠ 0 := by
  refine ⟨by unfold State.Executes; decide, by decide, by decide, by decide, ?_⟩
  have h : nextWith (step eiState) (fun t => decide (t.nextInstr ≠ .di) &&
      nextWith (step t) (fun u => decide (u.cpu.stopped = false) && decide (u.ints.pend ≠ 0))) = true := by decide +kernel
  obtain ⟨t, ht, h2⟩ := nextWith_next h
  rw [Bool.and_eq_true] at h2
  obtain ⟨u, hu, h3⟩ := nextWith_next h2.2
  rw [Bool.and_eq_true] at h3
  exact ⟨t, ht, of_decide_eq_true h2.1, u, hu, of_decide_eq_true h3.1, of_decide_eq_true h3.2⟩

/-- Both ends of every range. -/
theorem test_witness_OpenRegions :
    (0xC000 ≤ (0xC000 : Word).toNat ∧ (0xDFFF : Word).toNat ≤ 0xDFFF) ∧ (0xE000 ≤ (0xE000 : Word).toNat ∧ (0xFDFF : Word).toNat ≤ 0xFDFF) ∧
    (0xFEA0 ≤ (0xFEA0 : Word).toNat ∧ (0xFEFF : Word).toNat ≤ 0xFEFF) ∧ (0xFF80 ≤ (0xFF80 : Word).toNat ∧ (0xFFFE : Word).toNat ≤ 0xFFFE) ∧
    (0xFFFF : Word).toNat = 0xFFFF ∧
    (0xFF4C ≤ (0xFF4C : Word).toNat ∧ (0xFF7F : Word).toNat ≤ 0xFF7F) ∧ { base.ppu with ly := 153 }.ly ≤ 153 ∧
    (0xFF30 ≤ (0xFF30 : Word).toNat ∧ (0xFF3F : Word).toNat ≤ 0xFF3F) := by decide

/-- VRAM and OAM closed and open, cartridge RAM closed. -/
theorem test_witness_GatedRegions :
    (∃ s : State, s.ppu.lcdc.getLsbD 7 = true ∧ s.ppu.mode = .transfer) ∧ (base.ppu.lcdc.getLsbD 7 = true ∧ base.ppu.mode = .oamScan) ∧
    ¬ (base.ppu.lcdc.getLsbD 7 = true ∧ base.ppu.mode = .transfer) ∧
    (∃ s : State, ¬ (s.ppu.lcdc.getLsbD 7 = true ∧ (s.ppu.mode = .oamScan ∨ s.ppu.mode = .transfer))) ∧
    base.cart.kind = .none ∧ (mbc1.cart.kind ≠ .none ∧ mbc1.cart.ramSize ≠ 0 ∧ mbc1.cart.mbc.ramEnable = false) ∧
    0xA000 ≤ (0xA000 : Word).toNat ∧ (0xBFFF : Word).toNat ≤ 0xBFFF := by
  refine ⟨⟨{ base with ppu := { base.ppu with mode := .transfer } }, by decide⟩, by decide, by decide,
    ⟨{ base with ppu := { base.ppu with mode := .hblank } }, by decide⟩, by decide, by decide, by decide⟩

theorem test_witness_ReadAfterWrite :
    (regionOf 0xC000).plain = true ∧ base.cellOf 0xE001 ≠ base.cellOf 0xC000 ∧ regionOf 0xC000 ≠ .unusable ∧
    ((regionOf 0x8000).plain = true ∧ base.ppu.vramOpen = true) ∧
    ((regionOf 0xFE9F).plain = true ∧ Ppu.oamOpen { base.ppu with mode := .hblank } = true) ∧
    ((regionOf 0xBFFF).plain = true ∧ (mbc1.write 0x0000 0x0A).cart.ramOpen = true) := by decide

theorem test_witness_WriteFrame :
    (regionOf 0xFF40 ≠ .rom ∧ regionOf 0xFF40 ≠ .cartRam ∧ regionOf 0xFF40 ≠ .wram ∧ regionOf 0xFF40 ≠ .echo ∧ regionOf 0xFF40 ≠ .hram ∧
      regionOf 0xFF40 ≠ .vram ∧ regionOf 0xFF40 ≠ .oam ∧ (0xFF40 : Word) ≠ 0xFF46 ∧ regionOf 0xFF40 ≠ .ie) ∧ regionOf 0xC000 ≠ .io ∧
    (0xFF04 ≤ (0xFF04 : Word).toNat ∧ (0xFF07 : Word).toNat ≤ 0xFF07) ∧ (0xFF10 ≤ (0xFF10 : Word).toNat ∧ (0xFF3F : Word).toNat ≤ 0xFF3F) ∧
    (0xFF42 ≤ (0xFF42 : Word).toNat ∧ (0xFF4B : Word).toNat ≤ 0xFF4B ∧ (0xFF4B : Word) ≠ 0xFF45) := by decide

theorem test_witness_CartridgeBanks :
    (base.cart.kind = .none ∧ (0x7FFF : Word).toNat < 0x8000 ∧ 0xA000 ≤ (0xA000 : Word).toNat ∧ (0xA000 : Word).toNat ≤ 0xBFFF) ∧
    (mbc1.cart.kind = .mbc1 ∧ (0x3FFF : Word).toNat < 0x4000 ∧ 0x4000 ≤ (0x4000 : Word).toNat ∧ (0x4000 : Word).toNat < 0x8000) ∧
    (mbc1.cart.kind = .mbc1 ∧ 0xA000 ≤ (0xA000 : Word).toNat ∧ (0xA000 : Word).toNat ≤ 0xBFFF ∧ mbc1.cart.mbc.ramEnable = false) ∧
    (0xA000 ≤ (0xBFFF : Word).toNat ∧ (0xBFFF : Word).toNat ≤ 0xBFFF ∧ (mbc1.write 0x0000 0x0A).cart.kind = .mbc1 ∧
      (mbc1.write 0x0000 0x0A).cart.ramSize ≠ 0 ∧ (mbc1.write 0x0000 0x0A).cart.mbc.ramEnable = true) := by decide

/-- The last byte of a copy from the highest page, 0xFF9F, read in work RAM at 0xDF9F. -/
theorem test_witness_OamDma :
    ∃ (t : State) (src : Word), t = base.write 0xFF46 0xFF ∧ 159 < 160 ∧
      src = BitVec.ofNat 16
        (if 0xE000 ≤ (0xFF : Byte).toNat * 0x100 + 159 then (0xFF : Byte).toNat * 0x100 + 159 - 0x2000 else (0xFF : Byte).toNat * 0x100 + 159) ∧
      src = 0xDF9F := ⟨_, _, rfl, by decide, rfl, by decide⟩

/-- A settled timer at the value where its counter is about to step, to 0xFF. -/
theorem test_witness_TimaCountsEdges :
    ∃ (s : State) (n d p c : Nat), s.timer.Ok ∧ s.timer.reloadIn = none ∧ s.timer.tac.getLsbD 2 = true ∧
      p = (match s.timer.tac.toNat % 4 with | 0 => 1024 | 1 => 16 | 2 => 64 | _ => 256) ∧
      d = s.timer.div16.toNat ∧ c = (d + n) / p - d / p ∧ s.timer.tima.toNat + c ≤ 255 ∧ c = 1 ∧ s.timer.tima.toNat + c = 255 :=
  ⟨timerAt 0xFFFF 0xFE 0 5, 1, 0xFFFF, 16, 1, ⟨fun _ h => (nomatch h), by decide⟩, by decide, by decide, by decide, by decide, by decide, by decide,
    by decide, by decide⟩

/-- TIMA has just wrapped. -/
def wrapped : State := { timerAt 0x10 0x00 0x23 5 with timer := { (timerAt 0x10 0x00 0x23 5).timer with reloadIn := some 4 } }

theorem wrapped_ok : wrapped.timer.Ok := ⟨fun n h => by cases h; decide, by decide⟩

theorem test_witness_TimaReload :
    (timerAt 0 0xFF 0 5).timer.tima = 0xFF ∧ wrapped.timer.Ok ∧ wrapped.timer.reloadIn = some 4 ∧ wrapped.timer.signal = false ∧
      wrapped.timer.tima = 0x00 := ⟨by decide, wrapped_ok, by decide, by decide, by decide⟩

theorem test_witness_TimerWrites :
    wrapped.timer.Ok ∧ ∃ b b' : Bool, b = (wrapped.timer.tac.getLsbD 2 && wrapped.timer.div16.getLsbD (timerSelBit (wrapped.timer.tac.extractLsb' 0 2))) ∧
      b' = ((0x07 : Byte).getLsbD 2 && wrapped.timer.div16.getLsbD (timerSelBit ((0x07 : Byte).extractLsb' 0 2))) :=
  ⟨wrapped_ok, _, _, rfl, rfl⟩

/-- Both ends of MODE3_LEN. -/
theorem test_witness_PpuSchedule :
    (172 ≤ base.cfg.mode3Len ∧ base.cfg.mode3Len ≤ 289 ∧ base.ppu.lcdc.getLsbD 7 = true ∧ base.ppu.ly = 0 ∧ base.ppu.dot = 0 ∧
      base.ppu.mode = .oamScan) ∧ { Config.default with mode3Len := 289 }.mode3Len ≤ 289 := by decide

theorem test_witness_OneVBlankPerFrame : base.Inv ∧ base.ppu.lcdc.getLsbD 7 = true := ⟨base_inv, by decide⟩

theorem test_witness_StatRisingEdge :
    ∃ (line : Ppu → Bool) (t u : State),
      (∀ p : Ppu, line p =
        if p.lcdc.getLsbD 7 then
          ((p.statMask.getLsbD 3 && decide (p.ly = p.lyc.toNat)) || (p.statMask.getLsbD 2 && decide (p.mode.number = 2)) ||
           (p.statMask.getLsbD 1 && decide (p.mode.number = 1)) || (p.statMask.getLsbD 0 && decide (p.mode.number = 0)))
        else false) ∧
      t = base.tick ∧ base.ppu.lcdc.getLsbD 7 = true ∧ u = base.write 0xFF41 0x20 := ⟨_, _, _, fun _ => rfl, rfl, by decide, rfl⟩

theorem test_witness_LcdSwitch :
    (0x91 : Byte).getLsbD 7 = base.ppu.lcdc.getLsbD 7 ∧ (0x11 : Byte).getLsbD 7 ≠ base.ppu.lcdc.getLsbD 7 ∧ (0x11 : Byte).getLsbD 7 = false := by
  decide

/-- Two opaque sprites at one column: the one first in OAM order wins. -/
theorem test_sprite_winner :
    let p : Ppu := { base.ppu with vram := [(0x20, 0xFF)] }
    let e : Sprite := { y := 16, x := 8, tile := 2, attr := 0 }
    p.winner 0 0 [e, e] = some (e, 1) ∧ p.winner 0 0 [] = none := by decide

/-- A sprite on the last line it covers and on the last row of the screen; the functions of the statement exist by their definitions. -/
theorem test_witness_LineRendering :
    ∃ (p : Ppu) (e : Sprite) (x y h r t : Nat) (tileAddr : Byte → Nat) (dot : Nat → Nat → Nat) (mapColour : Bool → Nat → Nat → Nat),
      ((∀ n : Byte, tileAddr n =
        if p.lcdc.getLsbD 4 then 0x8000 + 16 * n.toNat else if n.toNat < 128 then 0x9000 + 16 * n.toNat else 0x8000 + 16 * n.toNat) ∧
      (∀ a c : Nat, dot a c =
        2 * ((p.vram.read (a + 1 - 0x8000)).getLsbD (7 - c)).toNat + ((p.vram.read (a - 0x8000)).getLsbD (7 - c)).toNat) ∧
      ∀ (second : Bool) (col row : Nat), mapColour second col row =
        dot (tileAddr (p.vram.read ((if second then 0x9C00 else 0x9800) + 32 * (row / 8) + col / 8 - 0x8000)) + 2 * (row % 8)) (col % 8)) ∧
      h = (if p.lcdc.getLsbD 2 then 16 else 8) ∧ e.y ≤ y + 16 ∧ y + 16 < e.y + h ∧
      r = (if e.attr.getLsbD 6 then h - 1 - (y + 16 - e.y) else y + 16 - e.y) ∧
      t = (if p.lcdc.getLsbD 2 then e.tile.toNat / 2 * 2 + r / 8 else e.tile.toNat) ∧
      p.winner x y [e] = some (e, 1) ∧ x < 160 ∧ y < 144 := by
  refine ⟨{ base.ppu with vram := [(0x2E, 0xFF)] }, { y := 152, x := 8, tile := 2, attr := 0 }, 0, 143, 8, 7, 2, _, _, _,
    ⟨fun _ => rfl, fun _ _ => rfl, fun _ _ _ => rfl⟩, ?_⟩
  decide

/-- The functions of the statement exist by their definitions, and so does the shifted noise register: the bits of 0x7FFF become 0x3FFF. -/
theorem test_witness_SampleQueue :
    (∃ (len : Bool → Nat → Nat) (on : Bool → Nat → Bool → Bool), (∀ en n, len en n = if en = true ∧ 0 < n then n - 1 else n) ∧
      ∀ en n b, on en n b = if en = true ∧ 0 < n ∧ len en n = 0 then false else b) ∧
    (∃ env : Envelope → Envelope, ∀ e, env e =
      if e.runPeriod.toNat = 0 then e
      else if 1 < e.timer then { e with timer := e.timer - 1 }
      else { e with
        timer := e.runPeriod.toNat
        vol := BitVec.ofNat 4 (if e.runDir = true then min 15 (e.vol.toNat + 1) else e.vol.toNat - 1) }) ∧
    (∃ next : Sweep → Nat, ∀ w, next w =
      if w.negate then w.shadow.toNat - w.shadow.toNat / 2 ^ w.shift.toNat else w.shadow.toNat + w.shadow.toNat / 2 ^ w.shift.toNat) ∧
    (∃ (c : Noise) (x : Bool) (r : BitVec 15), c = base.apu.ch4 ∧ x = (c.lfsr.getLsbD 0 ^^ c.lfsr.getLsbD 1) ∧ r = 0x3FFF ∧
      ∀ k < 15, r.getLsbD k = if k = 14 ∨ (k = 6 ∧ c.width = true) then x else c.lfsr.getLsbD (k + 1)) ∧
    0 < base.cfg.samplePeriod ∧ base.apu.sampleCounter < base.cfg.samplePeriod :=
  ⟨⟨_, _, fun _ _ => rfl, fun _ _ _ => rfl⟩, ⟨_, fun _ => rfl⟩, ⟨_, fun _ => rfl⟩, ⟨_, _, _, rfl, rfl, rfl, by decide⟩, by decide, by decide⟩

/-- 62_apu R424: NR12 written with direction up and period 1 (volume 15 counting down every third clock until then) takes effect at the trigger. -/
theorem test_envelope_applies_at_trigger :
    let s := base.write 0xFF12 0x59
    s.read 0xFF12 = 0x59 ∧ s.apu.envClock.envClock.envClock.ch1.env.timer = 3 ∧
      (s.write 0xFF14 0x80).apu.envClock.ch1.env.vol = 6 := by decide

theorem test_witness_Mixer :
    ∃ (u : Apu) (out : Nat → Nat),
      out 0 = (if u.on && u.ch1.on && u.ch1.env.dacOn then u.ch1.env.vol.toNat * (dutyBit u.ch1.duty u.ch1.pos).toNat else 0) ∧
      out 1 = (if u.on && u.ch2.on && u.ch2.env.dacOn then u.ch2.env.vol.toNat * (dutyBit u.ch2.duty u.ch2.pos).toNat else 0) ∧
      out 2 = (if u.on && u.ch3.on && u.ch3.dac then
          (if u.ch3.pos.toNat % 2 = 0 then (u.ch3.wave.read (u.ch3.pos.toNat / 2)).toNat / 16
           else (u.ch3.wave.read (u.ch3.pos.toNat / 2)).toNat % 16) /
            (match u.ch3.level.toNat with | 0 => 16 | 1 => 1 | 2 => 2 | _ => 4)
        else 0) ∧
      out 3 = (if u.on && u.ch4.on && u.ch4.env.dacOn then u.ch4.env.vol.toNat * (1 - (u.ch4.lfsr.getLsbD 0).toNat) else 0) ∧ out 1 = 15 :=
  ⟨(((base.write 0xFF17 0xF0).write 0xFF16 0x80).write 0xFF19 0x87).apu, fun k => if k = 1 then 15 else 0, by decide, by decide, by decide, by decide, by decide⟩

theorem test_witness_ChannelTriggers :
    base.apu.on = true ∧ (0xFF : Byte).getLsbD 7 = true ∧ (0x7F : Byte).toNat < 128 ∧
    (∃ put : Apu → State, ∀ u, put u = { base with apu := u }) ∧
    (∃ e : Envelope → Envelope, ∀ x, e x = { x with init := BitVec.ofNat 4 (8 / 16), dir := decide (8 / 8 % 2 = 1), period := BitVec.ofNat 3 8 }) ∧
    (∃ low high : BitVec 11 → BitVec 11,
      (∀ f, low f = BitVec.ofNat 11 (f.toNat / 256 * 256 + 0x7F)) ∧ ∀ f, high f = BitVec.ofNat 11 (0x7F % 8 * 256 + f.toNat % 256)) ∧
    ∃ e : Envelope → Nat, ∀ x, e x = 16 * x.init.toNat + 8 * x.dir.toNat + x.period.toNat :=
  ⟨by decide, by decide, by decide, ⟨_, fun _ => rfl⟩, ⟨_, fun _ => rfl⟩, ⟨_, _, fun _ => rfl, fun _ => rfl⟩, _, fun _ => rfl⟩

theorem test_witness_ApuPower :
    (base.apu.on = true ∧ (0x7F : Byte).getLsbD 7 = false ∧ 0x15 < 0x16 ∧ (0x80 : Byte).getLsbD 7 = true) ∧
    (0x80 : Byte).getLsbD 7 = base.apu.on ∧
    ∃ (p : Pulse → Pulse) (e : Envelope → Envelope),
      (∀ x, e x = { x with init := 0, dir := false, period := 0, runDir := false, runPeriod := 0, vol := 0 }) ∧
      ∀ c, p c = { c with on := false, duty := 0, len := 0, lenEn := false, env := e c.env, freq := 0 } :=
  ⟨by decide, by decide, _, _, fun _ => rfl, fun _ => rfl⟩

theorem test_witness_JoypadLines :
    (∃ lines : Joypad → BitVec 4, ∀ (j : Joypad) (k : Nat), k < 4 → (lines j).getLsbD k =
      !((!j.p1Sel.getLsbD 0 && j.buttons.getLsbD k) || (!j.p1Sel.getLsbD 1 && j.buttons.getLsbD (k + 4)))) ∧
    ∃ (t u : State), t = base.setJoypad 0x01 ∧ u = base.write 0xFF00 0x10 := by
  refine ⟨⟨Joypad.lines, fun j k hk => ?_⟩, _, _, rfl, rfl⟩
  unfold Joypad.lines
  cases j.p1Sel.getLsbD 0 <;> cases j.p1Sel.getLsbD 1 <;> (interval_cases k <;> simp)

theorem test_witness_LoadCartridge :
    (∃ t, loadCartridge Config.default (List.replicate 32768 0) none = .ok t) ∧ loadCartridge Config.default [] none = .error .invalidRom :=
  ⟨blank_loads, rfl⟩

end Sys2Proof.Tests
end

section
/-! SUPPORT and PROOF of O33. F after each shared operation, the flag column of each family, and the column kept by every flag computation: an
instruction leaves F alone, or writes a `flagsByte`, or is `POP AF`. -/

namespace Sys2Proof.Machine

/-! F after each shared operation. -/

@[simp] theorem State.store_f (s : State) (a : Word) (v : Byte) : (s.store a v).cpu.f = s.cpu.f := by simp [State.store]

@[simp] theorem State.push16_f (s : State) (v : Word) : (s.push16 v).cpu.f = s.cpu.f := by simp [State.push16_eq]

@[simp] theorem State.pop16_f (s : State) : s.pop16.2.cpu.f = s.cpu.f := by simp [State.pop16_eq]

@[simp] theorem State.readOperand_cpu (s : State) (t : Operand8) : (s.readOperand t).2.cpu = s.cpu := by
  cases t with
  | reg r => rfl
  | atHL => exact s.mcycle_cpu

@[simp] theorem State.writeOperand_f (s : State) (t : Operand8) (v : Byte) : (s.writeOperand t v).cpu.f = s.cpu.f := by
  cases t with
  | reg r => exact s.cpu.set_f r v
  | atHL => exact s.store_f _ v

theorem State.loadReg_f (s : State) (r : Reg8) (a : Word) : (s.loadReg r a).cpu.f = s.cpu.f := s.cpu.set_f r _

theorem State.loadAStep_f (s : State) (d : Word) : (s.loadAStep d).cpu.f = s.cpu.f := s.loadReg_f .a s.cpu.hl

theorem State.storeAStep_f (s : State) (d : Word) : (s.storeAStep d).cpu.f = s.cpu.f := s.store_f _ _

theorem State.storeSp_f (s : State) (nn : Word) : (s.storeSp nn).cpu.f = s.cpu.f := by simp [State.storeSp]

theorem State.copyHLToSp_f (s : State) : s.copyHLToSp.cpu.f = s.cpu.f := by simp [State.copyHLToSp]

theorem State.pushPair_f (s : State) (p : StackPair) : (s.pushPair p).cpu.f = s.cpu.f := by simp [State.pushPair]

theorem State.modify_f (s : State) (t : Operand8) (g : Byte → Byte → Flagged) :
    (s.modify t g).cpu.f = (g (s.readOperand t).1 s.cpu.f).f := by simp [State.modify]

theorem State.modifyBits_f (s : State) (t : Operand8) (g : Byte → Byte) : (s.modifyBits t g).cpu.f = s.cpu.f := by
  simp [State.modifyBits]

theorem State.aluOperand_f (s : State) (op : AluOp) (src : Operand8) :
    (s.aluOperand op src).cpu.f = (aluResult op s.cpu.a (s.readOperand src).1 s.cpu.f).f := by
  simp [State.aluOperand, State.aluValue]

theorem State.jump_f (s : State) (a : Word) : (s.jump a).cpu.f = s.cpu.f := by simp [State.jump]

@[simp] theorem State.call_f (s : State) (a : Word) : (s.call a).cpu.f = s.cpu.f := by simp [State.call]

@[simp] theorem State.ret_f (s : State) : s.ret.cpu.f = s.cpu.f := by simp [State.ret_eq]

theorem State.jumpIf_f (s : State) (cc : Cond) (a : Word) : (s.jumpIf cc a).cpu.f = s.cpu.f := by
  unfold State.jumpIf
  split
  · exact s.jump_f a
  · rfl

theorem State.callIf_f (s : State) (cc : Cond) (a : Word) : (s.callIf cc a).cpu.f = s.cpu.f := by
  unfold State.callIf
  split
  · exact s.call_f a
  · rfl

theorem State.retIf_f (s : State) (cc : Cond) : (s.retIf cc).cpu.f = s.cpu.f := by
  unfold State.retIf
  split <;> simp

theorem State.halt_f (s : State) : s.halt.cpu.f = s.cpu.f := by
  unfold State.halt
  split <;> rfl

theorem exec_stop_f {x : Byte} {s t : State} (h : exec (.stop x) s = .next t) : t.cpu.f = s.cpu.f := by
  change exec_stop x s = .next t at h
  unfold exec_stop at h
  split at h <;> cases h
  rfl

theorem State.undefinedOpcode_f {s t : State} {op : Byte} (h : s.undefinedOpcode op = .next t) : t.cpu.f = s.cpu.f := by
  rw [State.undefinedOpcode_next h]

/-! The column `flags_ZNHC` as a relation between F before and F after. -/

/-- What the column promises of F (00_scope R13), and that F's lower nibble stays 0 (10_state R24). -/
def FlagColumn.Holds (col : FlagColumn) (f f' : Byte) : Prop :=
  col.z.Holds (zFlag f) (zFlag f') ∧
  col.n.Holds (nFlag f) (nFlag f') ∧
  col.h.Holds (hFlag f) (hFlag f') ∧
  col.c.Holds (cFlag f) (cFlag f') ∧
  (f &&& 0x0F = 0 → f' &&& 0x0F = 0)

/-- The column of the rows that leave F alone. -/
def FlagColumn.allKept : FlagColumn := ⟨.kept, .kept, .kept, .kept⟩

theorem FlagColumn.allKept_holds {f f' : Byte} (h : f' = f) : FlagColumn.allKept.Holds f f' :=
  h ▸ ⟨rfl, rfl, rfl, rfl, id⟩

theorem flagsByte_low (z n h c : Bool) : flagsByte z n h c &&& 0x0F = 0 := by revert z n h c; decide

/-- A result byte made of four flags meets a column when each of the four does. -/
theorem FlagColumn.holds_flagsByte {col : FlagColumn} {f : Byte} {z n h c : Bool} (hz : col.z.Holds (zFlag f) z)
    (hn : col.n.Holds (nFlag f) n) (hh : col.h.Holds (hFlag f) h) (hc : col.c.Holds (cFlag f) c) :
    col.Holds f (flagsByte z n h c) := by
  unfold FlagColumn.Holds
  simp only [zFlag_flagsByte, nFlag_flagsByte, hFlag_flagsByte, cFlag_flagsByte]
  exact ⟨hz, hn, hh, hc, fun _ => flagsByte_low z n h c⟩

/-- A byte popped into F: every flag is the byte's, the lower nibble is 0 (41_load16 R186). -/
theorem FlagColumn.holds_maskF (f v : Byte) : FlagColumn.Holds ⟨.computed, .computed, .computed, .computed⟩ f (maskF v) :=
  ⟨trivial, trivial, trivial, trivial, fun _ => by simp [maskF, BitVec.and_assoc]⟩

/-! The column of each family of rows, and that its flag computation meets it. -/

/-- The column of the rows of an ALU operation (42_alu8 R201 to R208). -/
def aluColumn : AluOp → FlagColumn
  | .add | .adc => ⟨.computed, .cleared, .computed, .computed⟩
  | .sub | .sbc | .cp => ⟨.computed, .set, .computed, .computed⟩
  | .and => ⟨.computed, .cleared, .set, .cleared⟩
  | .xor | .or => ⟨.computed, .cleared, .cleared, .cleared⟩

/-- The column of the rows of a prefixed rotate or shift (44_rotate_shift_bit R245 to R252). -/
def shiftColumn : ShiftOp → FlagColumn
  | .swap => ⟨.computed, .cleared, .cleared, .cleared⟩
  | _ => ⟨.computed, .cleared, .cleared, .computed⟩

theorem flagColumn_alu (op : AluOp) (src : Operand8) : flagColumn (.alu op src) = aluColumn op := by
  cases op <;> rcases src with (_ | _ | _ | _ | _ | _ | _) | _ <;> rfl

theorem flagColumn_aluImm (op : AluOp) (n : Byte) : flagColumn (.aluImm op n) = aluColumn op := by
  cases op <;> rfl

theorem flagColumn_shift (op : ShiftOp) (t : Operand8) : flagColumn (.shift op t) = shiftColumn op := by
  cases op <;> rcases t with (_ | _ | _ | _ | _ | _ | _) | _ <;> rfl

theorem flagColumn_incOperand (t : Operand8) : flagColumn (.incOperand t) = ⟨.computed, .cleared, .computed, .kept⟩ := by
  rcases t with (_ | _ | _ | _ | _ | _ | _) | _ <;> rfl

theorem flagColumn_decOperand (t : Operand8) : flagColumn (.decOperand t) = ⟨.computed, .set, .computed, .kept⟩ := by
  rcases t with (_ | _ | _ | _ | _ | _ | _) | _ <;> rfl

theorem flagColumn_addHL (p : Pair) : flagColumn (.addHL p) = ⟨.kept, .cleared, .computed, .computed⟩ := by
  cases p <;> rfl

theorem flagColumn_bit (b : BitVec 3) (t : Operand8) : flagColumn (.bit b t) = ⟨.computed, .cleared, .set, .kept⟩ := by
  revert b; refine bits3_cases ?_ ?_ ?_ ?_ ?_ ?_ ?_ ?_ <;> rcases t with (_ | _ | _ | _ | _ | _ | _) | _ <;> rfl

theorem flagColumn_res (b : BitVec 3) (t : Operand8) : flagColumn (.res b t) = .allKept := by
  revert b; refine bits3_cases ?_ ?_ ?_ ?_ ?_ ?_ ?_ ?_ <;> rcases t with (_ | _ | _ | _ | _ | _ | _) | _ <;> rfl

theorem flagColumn_set (b : BitVec 3) (t : Operand8) : flagColumn (.set b t) = .allKept := by
  revert b; refine bits3_cases ?_ ?_ ?_ ?_ ?_ ?_ ?_ ?_ <;> rcases t with (_ | _ | _ | _ | _ | _ | _) | _ <;> rfl

theorem flagColumn_rst (t : BitVec 3) : flagColumn (.rst t) = .allKept := by
  revert t; refine bits3_cases ?_ ?_ ?_ ?_ ?_ ?_ ?_ ?_ <;> rfl

theorem aluResult_holds (op : AluOp) (a v f : Byte) : (aluColumn op).Holds f (aluResult op a v f).f := by
  cases op with
  | add | adc | sub | sbc | cp => exact FlagColumn.holds_flagsByte trivial rfl trivial trivial
  | and | xor | or => exact FlagColumn.holds_flagsByte trivial rfl rfl rfl

theorem shiftResult_holds (op : ShiftOp) (v f : Byte) : (shiftColumn op).Holds f (shiftResult op v f).f := by
  cases op with
  | swap => exact FlagColumn.holds_flagsByte trivial rfl rfl rfl
  | _ => exact FlagColumn.holds_flagsByte trivial rfl rfl trivial

theorem popPair_holds (p : StackPair) (s : State) : (flagColumn (.pop p)).Holds s.cpu.f (s.popPair p).cpu.f := by
  cases p with
  | af => exact FlagColumn.holds_maskF s.cpu.f _
  | _ => exact FlagColumn.allKept_holds s.pop16_f

/-! Every instruction. -/

/-- Every instruction meets its column. -/
theorem exec_holds_flagColumn (i : Instr) {s t : State} (hwf : i.wellFormed = true) (hx : exec i s = .next t) :
    (flagColumn i).Holds s.cpu.f t.cpu.f := by
  have key : ∀ {u : State} {col : FlagColumn}, exec i s = .next u → flagColumn i = col → col.Holds s.cpu.f u.cpu.f →
      (flagColumn i).Holds s.cpu.f t.cpu.f := fun hu hcol h => by
    rw [hu] at hx; cases hx; rw [hcol]; exact h
  have kept : ∀ {u : State}, exec i s = .next u → flagColumn i = .allKept → u.cpu.f = s.cpu.f →
      (flagColumn i).Holds s.cpu.f t.cpu.f := fun hu hcol h => key hu hcol (FlagColumn.allKept_holds h)
  have undefined : ∀ {op : Byte}, s.undefinedOpcode op = .next t → flagColumn i = .allKept →
      (flagColumn i).Holds s.cpu.f t.cpu.f := fun hu hcol => kept hx hcol (State.undefinedOpcode_f hu)
  induction i using Instr.family_cases with
  | ldRegReg dst src => exact kept (exec_family_ldRegReg dst src s) (by cases dst <;> cases src <;> rfl) (s.cpu.set_f _ _)
  | ldRegImm r n => exact kept (exec_family_ldRegImm r n s) (by cases r <;> rfl) (s.cpu.set_f _ _)
  | ldRegAtHL r => exact kept (exec_family_ldRegAtHL r s) (by cases r <;> rfl) (s.loadReg_f _ _)
  | ldAtHLReg r => exact kept (exec_family_ldAtHLReg r s) (by cases r <;> rfl) (s.store_f _ _)
  | alu op src =>
    refine key (exec_family_alu op src s) (flagColumn_alu op src) ?_
    rw [State.aluOperand_f]
    exact aluResult_holds op _ _ _
  | aluImm op n => exact key (exec_family_aluImm op n s) (flagColumn_aluImm op n) (aluResult_holds op _ _ _)
  | incOperand t =>
    refine key (exec_family_incOperand t s) (flagColumn_incOperand t) ?_
    rw [State.modify_f]
    exact FlagColumn.holds_flagsByte trivial rfl trivial rfl
  | decOperand t =>
    refine key (exec_family_decOperand t s) (flagColumn_decOperand t) ?_
    rw [State.modify_f]
    exact FlagColumn.holds_flagsByte trivial rfl trivial rfl
  | ldPairImm p nn => exact kept (exec_family_ldPairImm p nn s) (by cases p <;> rfl) (s.cpu.setPair_f _ _)
  | addHL p =>
    exact key (exec_family_addHL p s) (flagColumn_addHL p) (FlagColumn.holds_flagsByte rfl rfl trivial trivial)
  | incPair p => exact kept (exec_family_incPair p s) (by cases p <;> rfl) (s.cpu.setPair_f _ _)
  | decPair p => exact kept (exec_family_decPair p s) (by cases p <;> rfl) (s.cpu.setPair_f _ _)
  | push p => exact kept (exec_family_push p s) (by cases p <;> rfl) (s.pushPair_f p)
  | pop p => exact key (exec_family_pop p s) rfl (popPair_holds p s)
  | jpCond cc nn => exact kept (exec_family_jpCond cc nn s) (by cases cc <;> rfl) (s.jumpIf_f _ _)
  | jrCond cc e => exact kept (exec_family_jrCond cc e s) (by cases cc <;> rfl) (s.jumpIf_f _ _)
  | callCond cc nn => exact kept (exec_family_callCond cc nn s) (by cases cc <;> rfl) (s.callIf_f _ _)
  | retCond cc => exact kept (exec_family_retCond cc s) (by cases cc <;> rfl) (s.retIf_f cc)
  | rst t => exact kept (exec_family_rst t s) (flagColumn_rst t) (s.call_f _)
  | shift op t =>
    refine key (exec_family_shift op t s) (flagColumn_shift op t) ?_
    rw [State.modify_f]
    exact shiftResult_holds op _ _
  | bit b t =>
    exact key (exec_family_bit b t s) (flagColumn_bit b t) (FlagColumn.holds_flagsByte trivial rfl rfl rfl)
  | res b t => exact kept (exec_family_res b t s) (flagColumn_res b t) (s.modifyBits_f _ _)
  | set b t => exact kept (exec_family_set b t s) (flagColumn_set b t) (s.modifyBits_f _ _)
  | h_nop => exact kept rfl rfl rfl
  | h_ld_atBC_a => exact kept rfl rfl (s.store_f _ _)
  | h_ld_atDE_a => exact kept rfl rfl (s.store_f _ _)
  | h_ld_atNN_a nn => exact kept rfl rfl (s.store_f _ _)
  | h_ldh_atN_a n => exact kept rfl rfl (s.store_f _ _)
  | h_ldh_atC_a => exact kept rfl rfl (s.store_f _ _)
  | h_ld_atHL_n n => exact kept rfl rfl (s.store_f _ _)
  | h_ld_a_atBC => exact kept rfl rfl (s.loadReg_f _ _)
  | h_ld_a_atDE => exact kept rfl rfl (s.loadReg_f _ _)
  | h_ld_a_atNN nn => exact kept rfl rfl (s.loadReg_f _ _)
  | h_ldh_a_atN n => exact kept rfl rfl (s.loadReg_f _ _)
  | h_ldh_a_atC => exact kept rfl rfl (s.loadReg_f _ _)
  | h_ld_atHLinc_a => exact kept rfl rfl (s.storeAStep_f _)
  | h_ld_atHLdec_a => exact kept rfl rfl (s.storeAStep_f _)
  | h_ld_a_atHLinc => exact kept rfl rfl (s.loadAStep_f _)
  | h_ld_a_atHLdec => exact kept rfl rfl (s.loadAStep_f _)
  | h_ld_atNN_sp nn => exact kept rfl rfl (s.storeSp_f nn)
  | h_ld_sp_hl => exact kept rfl rfl s.copyHLToSp_f
  | h_ld_hl_sp_e e => exact key rfl rfl (FlagColumn.holds_flagsByte rfl rfl trivial trivial)
  | h_add_sp_e e => exact key rfl rfl (FlagColumn.holds_flagsByte rfl rfl trivial trivial)
  | h_rlca => exact key rfl rfl (FlagColumn.holds_flagsByte rfl rfl rfl trivial)
  | h_rrca => exact key rfl rfl (FlagColumn.holds_flagsByte rfl rfl rfl trivial)
  | h_rla => exact key rfl rfl (FlagColumn.holds_flagsByte rfl rfl rfl trivial)
  | h_rra => exact key rfl rfl (FlagColumn.holds_flagsByte rfl rfl rfl trivial)
  | h_daa => exact key rfl rfl (FlagColumn.holds_flagsByte trivial rfl rfl trivial)
  | h_cpl => exact key rfl rfl (FlagColumn.holds_flagsByte rfl rfl rfl rfl)
  | h_scf => exact key rfl rfl (FlagColumn.holds_flagsByte rfl rfl rfl rfl)
  | h_ccf => exact key rfl rfl (FlagColumn.holds_flagsByte rfl rfl rfl trivial)
  | h_jp_nn nn => exact kept rfl rfl (s.jump_f nn)
  | h_jr_e e => exact kept rfl rfl (s.jump_f _)
  | h_jp_hl => exact kept rfl rfl rfl
  | h_call_nn nn => exact kept rfl rfl (s.call_f nn)
  | h_ret => exact kept rfl rfl s.ret_f
  | h_reti => exact kept rfl rfl s.ret_f
  | h_halt => exact kept rfl rfl s.halt_f
  | h_di => exact kept rfl rfl rfl
  | h_ei => exact kept rfl rfl rfl
  | h_prefixCb => exact absurd hwf (by decide)
  | h_stop x => exact kept hx rfl (exec_stop_f hx)
  | h_undef_d3 => exact undefined hx rfl
  | h_undef_db => exact undefined hx rfl
  | h_undef_dd => exact undefined hx rfl
  | h_undef_e3 => exact undefined hx rfl
  | h_undef_e4 => exact undefined hx rfl
  | h_undef_eb => exact undefined hx rfl
  | h_undef_ec => exact undefined hx rfl
  | h_undef_ed => exact undefined hx rfl
  | h_undef_f4 => exact undefined hx rfl
  | h_undef_fc => exact undefined hx rfl
  | h_undef_fd => exact undefined hx rfl

/-- Settles O33: an instruction leaves F alone, or writes four flags with a lower nibble of 0, or is `POP AF`. -/
theorem flagsFollowTheTable : Obligations.FlagsFollowTheTable :=
  fun i _ _ hwf hx => exec_holds_flagColumn i hwf hx

end Sys2Proof.Machine
end

section
/-! SUPPORT and PROOFS of O12, O13, O15, O16. The four branches of a step as equations, what every step keeps, and the state after a load. -/

namespace Sys2Proof.Machine

/-! Which source is pending. -/

theorem Interrupts.pending_eq_none_iff (i : Interrupts) : i.pending = none ↔ i.pend = 0 := by
  unfold Interrupts.pending
  generalize i.pend = p
  revert p
  decide

theorem Interrupts.exists_pending {i : Interrupts} (h : i.pend ≠ 0) : ∃ k, i.pending = some k :=
  Option.ne_none_iff_exists'.mp fun hn => h (i.pending_eq_none_iff.mp hn)

/-! The branches of `step()` (60_exceptions R310), one equation each. -/

/-- The state in which a step that is neither stopped nor idle goes on: the first M-cycle begun, HALT left. -/
def State.roused (s : State) : State := s.beginStep.setCpu { s.cpu with halted := false }

theorem step_stopped {s : State} (h : s.cpu.stopped = true) : step s = .next s.beginStep := by
  simp [step, stepOnce, h]

theorem step_idle {s : State} (hs : s.cpu.stopped = false) (hh : s.cpu.halted = true) (hp : s.ints.pend = 0) :
    step s = .next s.beginStep.finish := by
  simp [step, stepOnce, hs, hh, s.ints.pending_eq_none_iff.mpr hp]

/-- A step of a CPU that is neither stopped nor idle goes on to dispatch or to execute. -/
theorem step_eq_runAwake {s : State} (hs : s.cpu.stopped = false) (hh : s.cpu.halted = true → s.ints.pend ≠ 0) :
    step s = s.roused.runAwake s.ints.pending := by
  have hawake : (s.cpu.halted && s.ints.pending.isNone) = false := by
    rw [Bool.and_eq_false_imp]
    intro hc
    simpa [Option.isSome_iff_ne_none] using mt s.ints.pending_eq_none_iff.mp (hh hc)
  rw [step, stepOnce, hs, if_neg Bool.false_ne_true, hawake, if_neg Bool.false_ne_true, State.roused]

theorem step_dispatch {s : State} {k : Source} (hs : s.cpu.stopped = false) (hi : s.cpu.ime = true) (hk : s.ints.pending = some k) :
    step s = .next (s.roused.takeInterrupt k).finish := by
  have hp : s.ints.pend ≠ 0 := fun h0 => nomatch hk.symm.trans (s.ints.pending_eq_none_iff.mpr h0)
  have hroused : s.roused.cpu.ime = true := hi
  rw [step_eq_runAwake hs fun _ => hp, hk, State.runAwake]
  simp only [hroused]

theorem State.runAwake_executes {s : State} {p : Option Source} (h : s.cpu.ime = true → p = none) :
    s.runAwake p = s.applyEi.runInstr := by
  unfold State.runAwake
  split
  · exact nomatch h ‹_›
  · rfl

theorem step_executes {s : State} (h : s.Executes) :
    step s = Answer.andThen (exec s.nextInstr s.awake.fetchInstr.2) State.finish := by
  obtain ⟨hs, hh, hi⟩ := h
  have hnone : s.roused.cpu.ime = true → s.ints.pending = none := fun hc => s.ints.pending_eq_none_iff.mpr (hi hc)
  calc step s = s.roused.runAwake s.ints.pending := step_eq_runAwake hs hh
    _ = s.awake.runInstr := State.runAwake_executes hnone
    _ = Answer.andThen (exec s.nextInstr s.awake.fetchInstr.2) State.finish := by rw [State.runInstr, State.nextInstr]

/-- A step is stopped, idle, a dispatch, or an instruction. -/
theorem State.step_branches (s : State) :
    s.cpu.stopped = true ∨ (s.cpu.stopped = false ∧ s.cpu.halted = true ∧ s.ints.pend = 0) ∨
      (s.cpu.stopped = false ∧ s.cpu.ime = true ∧ s.ints.pend ≠ 0) ∨ s.Executes := by
  cases hs : s.cpu.stopped with
  | true => exact .inl rfl
  | false =>
    by_cases hidle : s.cpu.halted = true ∧ s.ints.pend = 0
    · exact .inr (.inl ⟨rfl, hidle⟩)
    · by_cases hdispatch : s.cpu.ime = true ∧ s.ints.pend ≠ 0
      · exact .inr (.inr (.inl ⟨rfl, hdispatch⟩))
      · exact .inr (.inr (.inr ⟨hs, not_and.mp hidle, fun hi => not_not.mp (not_and.mp hdispatch hi)⟩))

/-- All that a step that answers a next state can have done. -/
theorem step_cases {s t : State} (h : step s = .next t) :
    t = s.beginStep ∨ t = s.beginStep.finish ∨ (∃ k, t = (s.roused.takeInterrupt k).finish) ∨
      ∃ u, exec s.nextInstr s.awake.fetchInstr.2 = .next u ∧ t = u.finish := by
  rcases s.step_branches with hs | ⟨hs, hh, hp⟩ | ⟨hs, hi, hp⟩ | hx
  · rw [step_stopped hs] at h
    cases h
    exact .inl rfl
  · rw [step_idle hs hh hp] at h
    cases h
    exact .inr (.inl rfl)
  · obtain ⟨k, hk⟩ := Interrupts.exists_pending hp
    rw [step_dispatch hs hi hk] at h
    cases h
    exact .inr (.inr (.inl ⟨k, rfl⟩))
  · rw [step_executes hx] at h
    obtain ⟨u, hu, ht⟩ := Answer.andThen_next h
    exact .inr (.inr (.inr ⟨u, hu, ht.symm⟩))

/-! The invariant. -/

theorem State.Inv.roused {s : State} (h : s.Inv) : s.roused.Inv := (h.setCycles 4).setRegs h.cpu.flags rfl rfl rfl

theorem State.fetch8_cpu (s : State) : s.fetch8.2.cpu = { s.cpu with pc := s.cpu.pc + 1 } := by
  simp [State.fetch8, State.fetchByte]

/-- Fetching the operands moves PC and changes nothing else of the CPU. -/
theorem State.fetchOperands_cpu (s : State) (e : Entry) : ∃ p, (s.fetchOperands e).2.cpu = { s.cpu with pc := p } := by
  cases e with
  | one i => exact ⟨s.cpu.pc, rfl⟩
  | two f => exact ⟨_, s.fetch8_cpu⟩
  | stop => exact ⟨_, rfl⟩
  | three f => exact ⟨_, s.fetch8.2.fetch8_cpu.trans (by rw [s.fetch8_cpu])⟩
  | prefixCb => exact ⟨_, s.fetch8_cpu⟩

/-- The CPU with which an instruction starts: awake, the EI latch applied, the halt bug consumed. -/
theorem State.awake_fetchInstr_cpu (s : State) : ∃ p, s.awake.fetchInstr.2.cpu = { s.awake.cpu with haltBug := false, pc := p } :=
  (s.awake.fetchOpcode.2.fetchOperands_cpu _).imp fun _ h => h

/-- Settles O12: each of the four branches of a step keeps the invariant. -/
theorem stepKeepsTheInvariant : Obligations.StepKeepsTheInvariant := by
  intro s t hinv h
  rcases step_cases h with rfl | rfl | ⟨k, rfl⟩ | ⟨u, hu, rfl⟩
  · exact hinv.setCycles 4
  · exact (hinv.setCycles 4).finish
  · exact (hinv.roused.takeInterrupt k).finish
  · obtain ⟨p, hcpu⟩ := s.awake_fetchInstr_cpu
    have hfetched : s.awake.fetchInstr.2.Inv := hinv.roused.applyEi.fetchOpcode.fetchOperands _
    exact (exec_inv _ hfetched (by rw [hcpu]) (by rw [hcpu]; rfl) hu).finish

theorem Cpu.Ok.reset : Cpu.reset.Ok := ⟨by decide, by decide⟩

theorem Timer.Ok.reset : Timer.reset.Ok := ⟨fun _ h => (nomatch h), by decide⟩

theorem Joypad.Ok.reset : Joypad.reset.Ok := ⟨by decide⟩

theorem Ppu.Ok.reset (len : Nat) : Ppu.reset.Ok len where
  ly := by decide
  dot := by decide
  on := fun _ => rfl
  off := by decide
  statLine := by decide
  window := by decide
  windowBefore := fun _ => Nat.le_refl 0
  vram := Memory.Ok.nil _
  oam := Memory.Ok.nil _

theorem Apu.Ok.reset {n : Nat} (hn : 0 < n) : Apu.reset.Ok n where
  fsCounter := by decide
  sampleCounter := hn
  sweepTimer := by decide
  ch1 := ⟨by decide, by decide, ⟨by decide⟩⟩
  ch2 := ⟨by decide, by decide, ⟨by decide⟩⟩
  ch3 := ⟨by decide, by decide, Memory.Ok.nil _⟩
  ch4 := ⟨by decide, by decide, ⟨by decide⟩⟩
  off := by decide

/-- The machine after a load has the invariant when the parameters are legal and the cartridge has its part of it. -/
theorem State.Inv.powerOn {cfg : Config} {cart : Cartridge} (hcfg : cfg.wellFormed = true) (hcart : cart.Ok)
    (hw : Memory.Ok cfg.initWram 0x2000) (hh : Memory.Ok cfg.initHram 127) : (State.powerOn cfg cart).Inv :=
  ⟨hcfg, Cpu.Ok.reset, Timer.Ok.reset, Joypad.Ok.reset, Ppu.Ok.reset _, Apu.Ok.reset (Config.wellFormed_samplePeriod hcfg), hcart, hw, hh⟩

theorem Cartridge.Ok.blank : Cartridge.blank.Ok := ⟨Memory.Ok.nil _, Memory.Ok.nil _, by decide⟩

/-- Settles O13: State.reset is a load of the blank cartridge under the default parameters. -/
theorem resetHasTheInvariant : Obligations.ResetHasTheInvariant :=
  State.Inv.powerOn (by decide) Cartridge.Ok.blank (Memory.Ok.nil _) (Memory.Ok.nil _)

/-! What no step changes. -/

/-- The parameters, the cartridge's image, kind, battery and sizes, and the buttons. -/
structure Fixed where
  cfg : Config
  rom : Memory
  kind : CartKind
  battery : Bool
  romSize : Nat
  ramSize : Nat
  buttons : Byte

def State.fixed (s : State) : Fixed :=
  ⟨s.cfg, s.cart.rom, s.cart.kind, s.cart.battery, s.cart.romSize, s.cart.ramSize, s.joypad.buttons⟩

theorem State.fixed_writeIo (s : State) (r : IoReg) (v : Byte) : (s.writeIo r v).fixed = s.fixed := by
  cases r <;> rfl

theorem State.fixed_write (s : State) (a : Word) (v : Byte) : (s.write a v).fixed = s.fixed := by
  unfold State.write
  cases regionOf a with
  | io => exact s.fixed_writeIo _ v
  | _ => rfl

theorem State.fixed_mcycle (s : State) : s.mcycle.fixed = s.fixed := advanceMcycle_field State.fixed (fun _ => rfl) s

theorem State.fixed_finish (s : State) : s.finish.fixed = s.fixed := finish_field State.fixed (fun _ => rfl) s

theorem State.Effects.fixed_eq {s t : State} (h : s.Effects t) : t.fixed = s.fixed := by
  induction h with
  | start => rfl
  | setCpu _ _ ih => exact ih
  | mcycle _ ih => exact (State.fixed_mcycle _).trans ih
  | write _ a v ih => exact (State.fixed_write _ a v).trans ih

/-- The source acknowledged, interrupts off: the start of a dispatch. -/
def State.acknowledged (s : State) (k : Source) : State :=
  { s with ints := s.ints.acknowledge k, cpu := { s.cpu with ime := false, eiPending := false } }

theorem State.takeInterrupt_effects (s : State) (k : Source) : (s.acknowledged k).Effects (s.takeInterrupt k) :=
  (((State.Effects.start (s := s.acknowledged k)).mcycle.push16 _).mcycle).setCpu _

theorem step_fixed {s t : State} (h : step s = .next t) : t.fixed = s.fixed := by
  rcases step_cases h with rfl | rfl | ⟨k, rfl⟩ | ⟨u, hu, rfl⟩
  · rfl
  · exact s.beginStep.fixed_finish
  · exact (State.fixed_finish _).trans (s.roused.takeInterrupt_effects k).fixed_eq
  · calc u.finish.fixed = u.fixed := u.fixed_finish
      _ = s.awake.fetchInstr.2.fixed := (exec_effects _ hu).fixed_eq
      _ = s.awake.fixed := (State.Effects.fetchInstr _).fixed_eq

/-- Settles O15: CPU updates, M-cycles, bus writes and the devices' time change none of these fields. -/
theorem stepLeavesTheCartridgeImage : Obligations.StepLeavesTheCartridgeImage := by
  intro s t h
  simpa [State.fixed] using step_fixed h

/-! The state after a load. -/

theorem loadCartridge_eq {cfg : Config} {rom : List Byte} {save : Option (List Byte)} {s : State}
    (h : loadCartridge cfg rom save = .ok s) : s = State.powerOn cfg (imageCartridge rom save) := by
  unfold loadCartridge at h
  split at h <;> cases h
  rfl

/-- The APU's page of I/O registers, 0xFF10 to 0xFF2F (20_memory R71, R74). -/
theorem State.read_apuPage (s : State) {k : Nat} (hk : k < 0x20) :
    s.read (0xFF10 + BitVec.ofNat 16 k) = (apuRegAt (0x10 + k)).elim s.cfg.openBus s.apu.readReg := by
  have ha : (0xFF10 + BitVec.ofNat 16 k : Word).toNat = 0xFF10 + k := by
    rw [BitVec.toNat_add, BitVec.toNat_ofNat, show BitVec.toNat (0xFF10 : Word) = 0xFF10 from rfl]
    omega
  have hoff : 0xFF10 + k - 0xFF00 = 0x10 + k := by omega
  have hregion : regionOf (0xFF10 + BitVec.ofNat 16 k) = .io := by
    simp only [regionOf, ha]
    repeat rw [if_neg (by omega)]
    rw [if_pos (by omega)]
  rw [s.read_register hregion rfl, ioRegOf]
  simp only [ha, hoff]
  rw [if_pos (by omega)]
  cases apuRegAt (0x10 + k) <;> rfl

theorem powerOn_apuPage (cfg : Config) (cart : Cartridge) :
    ((List.range 23).map fun k => (State.powerOn cfg cart).read (0xFF10 + BitVec.ofNat 16 k)) =
      [0x80, 0xBF, 0xF3, 0xFF, 0xBF, cfg.openBus, 0x3F, 0x00, 0xFF, 0xBF, 0x7F, 0xFF, 0x9F, 0xFF, 0xBF, cfg.openBus, 0xFF, 0x00, 0x00,
       0xBF, 0x77, 0xF3, 0xF1] := by
  rw [List.map_congr_left fun k hk => State.read_apuPage _ ((List.mem_range.mp hk).trans (by decide))]
  have hcfg : (State.powerOn cfg cart).cfg = cfg := rfl
  have hapu : (State.powerOn cfg cart).apu = Apu.reset := rfl
  rw [hcfg, hapu]
  simp only [List.range_succ, List.range_zero, List.nil_append, List.cons_append, List.map_cons, List.map_nil, apuRegAt, Option.elim,
    Nat.reduceAdd, List.cons.injEq, and_true, true_and]
  decide

/-- Settles O16: a load builds the whole state anew, so each entry of R48 is read off it. -/
theorem resetValues : Obligations.ResetValues := by
  intro cfg rom save s h
  obtain rfl := loadCartridge_eq h
  have reg : ∀ {a : Word} {r : IoReg} {v : Byte}, regionOf a = .io → ioRegOf a = r →
      (State.powerOn cfg (imageCartridge rom save)).readIo r = v → (State.powerOn cfg (imageCartridge rom save)).read a = v :=
    fun ha hr hv => (State.read_register _ ha hr).trans hv
  have readIf : Interrupts.reset.readIf = 0xE1 := by decide
  have readDiv : Timer.reset.readDiv = 0xAB := by decide
  have readTac : Timer.reset.readTac = 0xF8 := by decide
  have readP1 : Joypad.reset.readP1 = 0xCF := by decide
  have readSc : Serial.reset.readSc = 0x7E := by decide
  have readStat : Ppu.reset.readStat = 0x86 := by decide
  refine ⟨⟨rfl, rfl, rfl, rfl, rfl, rfl, rfl, rfl, rfl, rfl⟩, ⟨rfl, rfl, rfl, rfl, rfl⟩, ?ints, ?timer, ?joypad, ?serial, ?ppu,
    powerOn_apuPage _ _, fun _ _ => rfl, ⟨rfl, rfl, rfl, rfl⟩, fun _ => ⟨rfl, rfl, rfl, rfl⟩, rfl, rfl, fun y x hy hx => ?front⟩
  case ints => exact ⟨rfl, rfl, reg rfl ioRegOf_ifReg readIf⟩
  case timer =>
    exact ⟨rfl, reg rfl ioRegOf_div readDiv, reg rfl ioRegOf_tima rfl, reg rfl ioRegOf_tma rfl, rfl, reg rfl ioRegOf_tac readTac, rfl, rfl⟩
  case joypad => exact ⟨rfl, reg rfl ioRegOf_p1 readP1, rfl, rfl⟩
  case serial => exact ⟨reg rfl ioRegOf_sb rfl, reg rfl ioRegOf_sc readSc⟩
  case ppu =>
    exact ⟨reg rfl ioRegOf_lcdc rfl, rfl, reg rfl ioRegOf_stat readStat, reg rfl ioRegOf_scy rfl, reg rfl ioRegOf_scx rfl,
      reg rfl ioRegOf_ly rfl, reg rfl ioRegOf_lyc rfl, reg rfl ioRegOf_dma rfl, reg rfl ioRegOf_bgp rfl, reg rfl ioRegOf_obp0 rfl,
      reg rfl ioRegOf_obp1 rfl, reg rfl ioRegOf_wy rfl, reg rfl ioRegOf_wx rfl, rfl, rfl⟩
  case front => simp [State.powerOn, Ppu.reset, Frame.blank]

end Sys2Proof.Machine
end

section
/-! SUPPORT and PROOF of O34. The footprint of an instruction, that is what its rule may write of the CPU, and that every instruction but
the five that change the control state stays inside it. -/

namespace Sys2Proof.Machine

/-! The footprint. -/

/-- What an instruction may write of the CPU's registers, and the addresses it stores to, by which P1 can be written. -/
structure Footprint where
  regs : List Reg8 := []
  sp : Bool := false
  pc : Bool := false
  stores : List Word := []

/-- The footprint of an instruction that executes in `s`. -/
def footprint (i : Instr) (s : State) : Footprint := ⟨destinations i, writesSp i, writesPc i, storedAt i s⟩

/-- From `s` to `t` nothing of the CPU has changed but F and what the footprint allows; a store to P1 can clear `stopped`
(60_exceptions R352). -/
structure Footprint.Covers (fp : Footprint) (s t : State) : Prop where
  get : ∀ r : Reg8, r ∉ fp.regs → t.cpu.get r = s.cpu.get r
  sp : fp.sp = false → t.cpu.sp = s.cpu.sp
  pc : fp.pc = false → t.cpu.pc = s.cpu.pc
  ime : t.cpu.ime = s.cpu.ime
  eiPending : t.cpu.eiPending = s.cpu.eiPending
  halted : t.cpu.halted = s.cpu.halted
  haltBug : t.cpu.haltBug = s.cpu.haltBug
  stopped : t.cpu.stopped = s.cpu.stopped ∨ (t.cpu.stopped = false ∧ 0xFF00 ∈ fp.stores)

theorem deviceRegAt_eq_p1 {k : Nat} (h : deviceRegAt k = .p1) : k = 0 := by
  unfold deviceRegAt at h
  split at h <;> cases h
  rfl

theorem ioRegOf_eq_p1 {a : Word} (h : ioRegOf a = .p1) : a.toNat - 0xFF00 = 0 := by
  unfold ioRegOf at h
  dsimp only at h
  split at h
  · split at h <;> cases h
  · split at h
    · cases h
    · exact deviceRegAt_eq_p1 h

theorem State.writeIo_cpu_of_ne {r : IoReg} (hr : r ≠ .p1) (s : State) (v : Byte) : (s.writeIo r v).cpu = s.cpu := by
  cases r with
  | p1 => exact absurd rfl hr
  | _ => rfl

/-- The only address whose write can touch the CPU is that of P1. -/
theorem State.write_cpu_of_ne {a : Word} (ha : a ≠ 0xFF00) (s : State) (v : Byte) : (s.write a v).cpu = s.cpu := by
  unfold State.write
  cases hr : regionOf a with
  | io =>
    refine s.writeIo_cpu_of_ne (fun hp => ha (BitVec.eq_of_toNat_eq ?_)) v
    have h0 := ioRegOf_eq_p1 hp
    have hrange := regionOf_io hr
    have e : BitVec.toNat (0xFF00 : Word) = 0xFF00 := rfl
    omega
  | _ => rfl

namespace Footprint.Covers

variable {fp : Footprint} {s t : State}

theorem refl (fp : Footprint) (s : State) : fp.Covers s s :=
  ⟨fun _ _ => rfl, fun _ => rfl, fun _ => rfl, rfl, rfl, rfl, rfl, .inl rfl⟩

/-- What the CPU of `t` looks like is all that matters of `t`. -/
theorem of_cpu_eq (h : fp.Covers s t) {u : State} (hu : u.cpu = t.cpu) : fp.Covers s u := by
  obtain ⟨h1, h2, h3, h4, h5, h6, h7, h8⟩ := h
  constructor <;> rw [hu] <;> assumption

theorem mcycle (h : fp.Covers s t) : fp.Covers s t.mcycle := h.of_cpu_eq t.mcycle_cpu

theorem write (h : fp.Covers s t) {a : Word} (ha : a ∈ fp.stores) (v : Byte) : fp.Covers s (t.write a v) := by
  obtain ⟨h1, h2, h3, h4, h5, h6, h7, h8⟩ := h
  refine ⟨by simpa using h1, by simpa using h2, by simpa using h3, by simpa using h4, by simpa using h5, by simpa using h6,
    by simpa using h7, ?_⟩
  by_cases hp1 : a = 0xFF00
  · rcases t.write_cpu a v with e | e <;> rw [e]
    · exact h8
    · exact .inr ⟨rfl, hp1 ▸ ha⟩
  · rw [State.write_cpu_of_ne hp1]
    exact h8

theorem store (h : fp.Covers s t) {a : Word} (ha : a ∈ fp.stores) (v : Byte) : fp.Covers s (t.store a v) := h.mcycle.write ha v

theorem set (h : fp.Covers s t) {r : Reg8} (hr : r ∈ fp.regs) (v : Byte) : fp.Covers s (t.setCpu (t.cpu.set r v)) := by
  obtain ⟨h1, h2, h3, h4, h5, h6, h7, h8⟩ := h
  refine ⟨fun r' hr' => ?_, by simpa using h2, by simpa using h3, by simpa using h4, by simpa using h5, by simpa using h6,
    by simpa using h7, by simpa using h8⟩
  exact (t.cpu.get_set_other v (ne_of_mem_of_not_mem hr hr').symm).trans (h1 r' hr')

theorem get_eq (h : fp.Covers s t) {c : Cpu} (hc : ∀ r, c.get r = t.cpu.get r) (r : Reg8) (hr : r ∉ fp.regs) : c.get r = s.cpu.get r :=
  (hc r).trans (h.get r hr)

theorem setF (h : fp.Covers s t) (f : Byte) : fp.Covers s (t.setF f) :=
  ⟨h.get_eq fun r => by cases r <;> rfl, h.sp, h.pc, h.ime, h.eiPending, h.halted, h.haltBug, h.stopped⟩

theorem setSp (h : fp.Covers s t) (hsp : fp.sp = true) (a : Word) : fp.Covers s (t.setSp a) :=
  ⟨h.get_eq fun r => by cases r <;> rfl, fun h' => (nomatch hsp.symm.trans h'), h.pc, h.ime, h.eiPending, h.halted, h.haltBug, h.stopped⟩

theorem setPc (h : fp.Covers s t) (hpc : fp.pc = true) (a : Word) : fp.Covers s (t.setPc a) :=
  ⟨h.get_eq fun r => by cases r <;> rfl, h.sp, fun h' => (nomatch hpc.symm.trans h'), h.ime, h.eiPending, h.halted, h.haltBug, h.stopped⟩

/-! The shared operations. -/

theorem setAF (h : fp.Covers s t) (ha : .a ∈ fp.regs) (r : Flagged) : fp.Covers s (t.setAF r) := (h.setF r.f).set ha r.value

theorem setHL (h : fp.Covers s t) (hh : .h ∈ fp.regs) (hl : .l ∈ fp.regs) (v : Word) : fp.Covers s (t.setCpu (t.cpu.setHL v)) :=
  (h.set hh (hiByte v)).set hl (loByte v)

theorem push16 (h : fp.Covers s t) (hsp : fp.sp = true) (hhi : t.cpu.sp - 1 ∈ fp.stores) (hlo : t.cpu.sp - 2 ∈ fp.stores) (v : Word) :
    fp.Covers s (t.push16 v) := by
  rw [State.push16_eq]
  exact ((h.store hhi _).store hlo _).setSp hsp _

theorem pop16 (h : fp.Covers s t) (hsp : fp.sp = true) : fp.Covers s t.pop16.2 := by
  rw [State.pop16_eq]
  exact h.mcycle.mcycle.setSp hsp _

theorem ret (h : fp.Covers s t) (hsp : fp.sp = true) (hpc : fp.pc = true) : fp.Covers s t.ret := ((h.pop16 hsp).mcycle).setPc hpc _

theorem jump (h : fp.Covers s t) (hpc : fp.pc = true) (a : Word) : fp.Covers s (t.jump a) := h.mcycle.setPc hpc a

end Footprint.Covers

/-! The footprint of each shape of instruction, and that the shared operation stays inside it. -/

def Footprint.ofPair : Pair → Footprint
  | .bc => { regs := [.b, .c] }
  | .de => { regs := [.d, .e] }
  | .hl => { regs := [.h, .l] }
  | .sp => { sp := true }

theorem covers_setPair (p : Pair) (v : Word) (s : State) : (Footprint.ofPair p).Covers s (s.setCpu (s.cpu.setPair p v)) := by
  have h := Footprint.Covers.refl (.ofPair p) s
  cases p with
  | bc => exact (h.set (r := .b) (by decide) (hiByte v)).set (r := .c) (by decide) (loByte v)
  | de => exact (h.set (r := .d) (by decide) (hiByte v)).set (r := .e) (by decide) (loByte v)
  | hl => exact h.setHL (by decide) (by decide) v
  | sp => exact h.setSp rfl v

theorem covers_movePair (p : Pair) (d : Word) (s : State) : (Footprint.ofPair p).Covers s (s.movePair p d) :=
  (covers_setPair p (s.cpu.getPair p + d) s).of_cpu_eq rfl

def Footprint.ofStackPair : StackPair → Footprint
  | .bc => { regs := [.b, .c], sp := true }
  | .de => { regs := [.d, .e], sp := true }
  | .hl => { regs := [.h, .l], sp := true }
  | .af => { regs := [.a], sp := true }

theorem covers_popPair (p : StackPair) (s : State) : (Footprint.ofStackPair p).Covers s (s.popPair p) := by
  have h := (Footprint.Covers.refl (.ofStackPair p) s).pop16 (by cases p <;> rfl)
  cases p with
  | bc => exact (h.set (r := .b) (by decide) (hiByte _)).set (r := .c) (by decide) (loByte _)
  | de => exact (h.set (r := .d) (by decide) (hiByte _)).set (r := .e) (by decide) (loByte _)
  | hl => exact h.setHL (by decide) (by decide) _
  | af => exact h.setAF (by decide) ⟨hiByte _, maskF (loByte _)⟩

/-- An operand that is written: a register, or the byte at HL. -/
def Footprint.ofOperand (hl : Word) : Operand8 → Footprint
  | .reg r => { regs := [r] }
  | .atHL => { stores := [hl] }

theorem covers_readOperand (fp : Footprint) (t : Operand8) (s : State) : fp.Covers s (s.readOperand t).2 := by
  cases t with
  | reg r => exact .refl fp s
  | atHL => exact (Footprint.Covers.refl fp s).mcycle

theorem covers_modify (t : Operand8) (g : Byte → Byte → Flagged) (s : State) : (Footprint.ofOperand s.cpu.hl t).Covers s (s.modify t g) := by
  have h := Footprint.Covers.refl (.ofOperand s.cpu.hl t) s
  cases t with
  | reg r => exact (h.setF _).set (List.mem_singleton_self r) _
  | atHL =>
    rw [State.modify_atHL]
    exact (h.mcycle.mcycle.write (List.mem_singleton_self s.cpu.hl) _).setF _

theorem covers_modifyBits (t : Operand8) (g : Byte → Byte) (s : State) : (Footprint.ofOperand s.cpu.hl t).Covers s (s.modifyBits t g) := by
  have h := covers_readOperand (.ofOperand s.cpu.hl t) t s
  cases t with
  | reg r => exact h.set (List.mem_singleton_self r) _
  | atHL => exact h.store (by simp [Footprint.ofOperand, State.readOperand]) _

/-- CP leaves A (42_alu8 R208). -/
def Footprint.ofAlu : AluOp → Footprint
  | .cp => {}
  | _ => { regs := [.a] }

theorem Footprint.Covers.aluValue {op : AluOp} {s t : State} (h : (Footprint.ofAlu op).Covers s t) (v : Byte) :
    (Footprint.ofAlu op).Covers s (t.aluValue op v) := by
  cases op with
  | cp => exact h.setF _
  | _ => exact h.setAF (by decide) _

theorem covers_setReg (r : Reg8) (v : Byte) (s : State) : Footprint.Covers { regs := [r] } s (s.setReg r v) :=
  (Footprint.Covers.refl _ s).set (List.mem_singleton_self r) v

theorem covers_loadReg (r : Reg8) (a : Word) (s : State) : Footprint.Covers { regs := [r] } s (s.loadReg r a) :=
  (covers_setReg r (s.mcycle.read a) s).of_cpu_eq rfl

theorem covers_store (a : Word) (v : Byte) (s : State) : Footprint.Covers { stores := [a] } s (s.store a v) :=
  (Footprint.Covers.refl _ s).store (List.mem_singleton_self a) v

theorem covers_storeSp (nn : Word) (s : State) : Footprint.Covers { stores := [nn, nn + 1] } s (s.storeSp nn) :=
  ((Footprint.Covers.refl _ s).store (by simp) _).store (by simp) _

/-- The bytes below SP that a push stores to (41_load16 R184). -/
def State.pushed (s : State) : List Word := [s.cpu.sp - 1, s.cpu.sp - 2]

theorem covers_pushPair (p : StackPair) (s : State) : Footprint.Covers { sp := true, stores := s.pushed } s (s.pushPair p) :=
  (Footprint.Covers.refl _ s).mcycle.push16 rfl (by simp [State.pushed]) (by simp [State.pushed]) _

theorem covers_call (a : Word) (s : State) : Footprint.Covers { sp := true, pc := true, stores := s.pushed } s (s.call a) :=
  ((Footprint.Covers.refl _ s).mcycle.push16 rfl (by simp [State.pushed]) (by simp [State.pushed]) _).setPc rfl a

theorem covers_ret (s : State) : Footprint.Covers { sp := true, pc := true } s s.ret := (Footprint.Covers.refl _ s).ret rfl rfl

theorem covers_jump (a : Word) (s : State) : Footprint.Covers { pc := true } s (s.jump a) := (Footprint.Covers.refl _ s).jump rfl a

theorem covers_jumpIf (cc : Cond) (a : Word) (s : State) : Footprint.Covers { pc := true } s (s.jumpIf cc a) := by
  unfold State.jumpIf
  split
  · exact covers_jump a s
  · exact .refl _ s

theorem covers_callIf (cc : Cond) (a : Word) (s : State) :
    Footprint.Covers { sp := true, pc := true, stores := if condHolds cc s.cpu.f then s.pushed else [] } s (s.callIf cc a) := by
  unfold State.callIf
  split
  · exact covers_call a s
  · exact .refl _ s

theorem covers_retIf (cc : Cond) (s : State) : Footprint.Covers { sp := true, pc := true } s (s.retIf cc) := by
  have h := (Footprint.Covers.refl { sp := true, pc := true } s).mcycle
  unfold State.retIf
  split
  · exact h.ret rfl rfl
  · exact h

theorem covers_loadAStep (d : Word) (s : State) : Footprint.Covers { regs := [.a, .h, .l] } s (s.loadAStep d) :=
  (((Footprint.Covers.refl { regs := [.a, .h, .l] } s).set (r := .a) (by decide) (s.mcycle.read s.cpu.hl)).setHL (by decide) (by decide)
    (s.cpu.hl + d)).of_cpu_eq rfl

theorem covers_storeAStep (d : Word) (s : State) : Footprint.Covers { regs := [.h, .l], stores := [s.cpu.hl] } s (s.storeAStep d) :=
  ((Footprint.Covers.refl _ s).store (by simp) _).setHL (by simp) (by simp) _

theorem covers_copyHLToSp (s : State) : Footprint.Covers { sp := true } s s.copyHLToSp := (Footprint.Covers.refl _ s).mcycle.setSp rfl _

theorem covers_setHL (v : Word) (f : Byte) (s : State) : Footprint.Covers { regs := [.h, .l] } s ((s.setCpu (s.cpu.setHL v)).setF f) :=
  ((Footprint.Covers.refl { regs := [.h, .l] } s).setHL (by decide) (by decide) v).setF f

theorem covers_loadHLFromSp (e : Byte) (s : State) : Footprint.Covers { regs := [.h, .l] } s (s.loadHLFromSp e) :=
  (covers_setHL (spPlus s.cpu.sp e) (spPlusFlags s.cpu.sp e) s).of_cpu_eq rfl

theorem covers_addToHL (p : Pair) (s : State) : Footprint.Covers { regs := [.h, .l] } s (s.addToHL p) :=
  (covers_setHL (s.cpu.hl + s.cpu.getPair p) (addHLFlags s.cpu.hl (s.cpu.getPair p) s.cpu.f) s).of_cpu_eq rfl

theorem covers_addToSp (e : Byte) (s : State) : Footprint.Covers { sp := true } s (s.addToSp e) :=
  (((Footprint.Covers.refl { sp := true } s).setSp rfl (spPlus s.cpu.sp e)).setF (spPlusFlags s.cpu.sp e)).of_cpu_eq rfl

theorem covers_setAF (r : Flagged) (s : State) : Footprint.Covers { regs := [.a] } s (s.setAF r) :=
  (Footprint.Covers.refl _ s).setAF (by decide) r

theorem covers_setF (f : Byte) (s : State) : Footprint.Covers {} s (s.setF f) := (Footprint.Covers.refl _ s).setF f

/-! The columns of each family of rows. -/

theorem footprint_alu (op : AluOp) (src : Operand8) (s : State) : footprint (.alu op src) s = .ofAlu op := by
  cases op <;> rcases src with (_ | _ | _ | _ | _ | _ | _) | _ <;> rfl

theorem footprint_incOperand (t : Operand8) (s : State) : footprint (.incOperand t) s = .ofOperand s.cpu.hl t := by
  rcases t with (_ | _ | _ | _ | _ | _ | _) | _ <;> rfl

theorem footprint_decOperand (t : Operand8) (s : State) : footprint (.decOperand t) s = .ofOperand s.cpu.hl t := by
  rcases t with (_ | _ | _ | _ | _ | _ | _) | _ <;> rfl

theorem footprint_shift (op : ShiftOp) (t : Operand8) (s : State) : footprint (.shift op t) s = .ofOperand s.cpu.hl t := by
  cases op <;> rcases t with (_ | _ | _ | _ | _ | _ | _) | _ <;> rfl

theorem footprint_bit (b : BitVec 3) (t : Operand8) (s : State) : footprint (.bit b t) s = {} := by
  revert b; refine bits3_cases ?_ ?_ ?_ ?_ ?_ ?_ ?_ ?_ <;> rcases t with (_ | _ | _ | _ | _ | _ | _) | _ <;> rfl

theorem footprint_res (b : BitVec 3) (t : Operand8) (s : State) : footprint (.res b t) s = .ofOperand s.cpu.hl t := by
  revert b; refine bits3_cases ?_ ?_ ?_ ?_ ?_ ?_ ?_ ?_ <;> rcases t with (_ | _ | _ | _ | _ | _ | _) | _ <;> rfl

theorem footprint_set (b : BitVec 3) (t : Operand8) (s : State) : footprint (.set b t) s = .ofOperand s.cpu.hl t := by
  revert b; refine bits3_cases ?_ ?_ ?_ ?_ ?_ ?_ ?_ ?_ <;> rcases t with (_ | _ | _ | _ | _ | _ | _) | _ <;> rfl

theorem footprint_rst (t : BitVec 3) (s : State) : footprint (.rst t) s = { sp := true, pc := true, stores := s.pushed } := by
  revert t; refine bits3_cases ?_ ?_ ?_ ?_ ?_ ?_ ?_ ?_ <;> rfl

theorem footprint_callCond (cc : Cond) (nn : Word) (s : State) :
    footprint (.callCond cc nn) s = { sp := true, pc := true, stores := if condHolds cc s.cpu.f then s.pushed else [] } := by
  cases cc <;> rfl

/-- The page of LDH by its two spellings (40_load8 R161 to R164). -/
theorem ioPage_eq_add (n : Byte) : ioPage n = 0xFF00 + n.zeroExtend 16 := by revert n; decide

/-! Every instruction. -/

/-- The instructions that change IME, the EI latch, the halt latch, the halt bug or the stop latch (10_state R26 to R30). -/
def ChangesControl (i : Instr) : Prop := i = .di ∨ i = .ei ∨ i = .reti ∨ i = .halt ∨ ∃ x, i = .stop x

theorem exec_next_unique {i : Instr} {s t u : State} (hu : exec i s = .next u) (ht : exec i s = .next t) : u = t :=
  Host.Outcome.next.inj (hu.symm.trans ht)

/-- Every other instruction stays inside its footprint. -/
theorem exec_covers (i : Instr) {s t : State} (hwf : i.wellFormed = true) (hctl : ¬ ChangesControl i) (hx : exec i s = .next t) :
    (footprint i s).Covers s t := by
  have key : ∀ {u : State} {fp : Footprint}, exec i s = .next u → footprint i s = fp → fp.Covers s u → (footprint i s).Covers s t :=
    fun hu hfp h => by obtain rfl := exec_next_unique hu hx; rwa [hfp]
  have undefined : ∀ {op : Byte}, s.undefinedOpcode op = .next t → (footprint i s).Covers s t := fun hu => by
    rw [State.undefinedOpcode_next hu]
    exact .refl _ s
  induction i using Instr.family_cases with
  | ldRegReg dst src => exact key (exec_family_ldRegReg dst src s) (by cases dst <;> cases src <;> rfl) (covers_setReg dst (s.cpu.get src) s)
  | ldRegImm r n => exact key (exec_family_ldRegImm r n s) (by cases r <;> rfl) (covers_setReg r n s)
  | ldRegAtHL r => exact key (exec_family_ldRegAtHL r s) (by cases r <;> rfl) (covers_loadReg r _ s)
  | ldAtHLReg r => exact key (exec_family_ldAtHLReg r s) (by cases r <;> rfl) (covers_store _ _ s)
  | alu op src => exact key (exec_family_alu op src s) (footprint_alu op src s) ((covers_readOperand _ src s).aluValue _)
  | aluImm op n => exact key (exec_family_aluImm op n s) (by cases op <;> rfl) ((Footprint.Covers.refl (.ofAlu op) s).aluValue n)
  | incOperand t => exact key (exec_family_incOperand t s) (footprint_incOperand t s) (covers_modify t _ s)
  | decOperand t => exact key (exec_family_decOperand t s) (footprint_decOperand t s) (covers_modify t _ s)
  | ldPairImm p nn => exact key (exec_family_ldPairImm p nn s) (by cases p <;> rfl) (covers_setPair p nn s)
  | addHL p => exact key (exec_family_addHL p s) (by cases p <;> rfl) (covers_addToHL p s)
  | incPair p => exact key (exec_family_incPair p s) (by cases p <;> rfl) (covers_movePair p _ s)
  | decPair p => exact key (exec_family_decPair p s) (by cases p <;> rfl) (covers_movePair p _ s)
  | push p => exact key (exec_family_push p s) (by cases p <;> rfl) (covers_pushPair p s)
  | pop p => exact key (exec_family_pop p s) (by cases p <;> rfl) (covers_popPair p s)
  | jpCond cc nn => exact key (exec_family_jpCond cc nn s) (by cases cc <;> rfl) (covers_jumpIf cc _ s)
  | jrCond cc e => exact key (exec_family_jrCond cc e s) (by cases cc <;> rfl) (covers_jumpIf cc _ s)
  | callCond cc nn => exact key (exec_family_callCond cc nn s) (footprint_callCond cc nn s) (covers_callIf cc nn s)
  | retCond cc => exact key (exec_family_retCond cc s) (by cases cc <;> rfl) (covers_retIf cc s)
  | rst t => exact key (exec_family_rst t s) (footprint_rst t s) (covers_call _ s)
  | shift op t => exact key (exec_family_shift op t s) (footprint_shift op t s) (covers_modify t _ s)
  | bit b t => exact key (exec_family_bit b t s) (footprint_bit b t s) ((covers_readOperand _ t s).setF _)
  | res b t => exact key (exec_family_res b t s) (footprint_res b t s) (covers_modifyBits t _ s)
  | set b t => exact key (exec_family_set b t s) (footprint_set b t s) (covers_modifyBits t _ s)
  | h_nop => exact key rfl rfl (.refl _ s)
  | h_ld_atBC_a => exact key rfl rfl (covers_store _ _ s)
  | h_ld_atDE_a => exact key rfl rfl (covers_store _ _ s)
  | h_ld_atNN_a nn => exact key rfl rfl (covers_store nn _ s)
  | h_ldh_atN_a n => exact key rfl (by rw [ioPage_eq_add]; rfl) (covers_store (ioPage n) _ s)
  | h_ldh_atC_a => exact key rfl (by rw [ioPage_eq_add]; rfl) (covers_store (ioPage s.cpu.c) _ s)
  | h_ld_atHL_n n => exact key rfl rfl (covers_store _ _ s)
  | h_ld_a_atBC => exact key rfl rfl (covers_loadReg .a _ s)
  | h_ld_a_atDE => exact key rfl rfl (covers_loadReg .a _ s)
  | h_ld_a_atNN nn => exact key rfl rfl (covers_loadReg .a _ s)
  | h_ldh_a_atN n => exact key rfl rfl (covers_loadReg .a _ s)
  | h_ldh_a_atC => exact key rfl rfl (covers_loadReg .a _ s)
  | h_ld_atHLinc_a => exact key rfl rfl (covers_storeAStep 1 s)
  | h_ld_atHLdec_a => exact key rfl rfl (covers_storeAStep (-1) s)
  | h_ld_a_atHLinc => exact key rfl rfl (covers_loadAStep 1 s)
  | h_ld_a_atHLdec => exact key rfl rfl (covers_loadAStep (-1) s)
  | h_ld_atNN_sp nn => exact key rfl rfl (covers_storeSp nn s)
  | h_ld_sp_hl => exact key rfl rfl (covers_copyHLToSp s)
  | h_ld_hl_sp_e e => exact key rfl rfl (covers_loadHLFromSp e s)
  | h_add_sp_e e => exact key rfl rfl (covers_addToSp e s)
  | h_rlca => exact key rfl rfl (covers_setAF _ s)
  | h_rrca => exact key rfl rfl (covers_setAF _ s)
  | h_rla => exact key rfl rfl (covers_setAF _ s)
  | h_rra => exact key rfl rfl (covers_setAF _ s)
  | h_daa => exact key rfl rfl (covers_setAF _ s)
  | h_cpl => exact key rfl rfl (covers_setAF _ s)
  | h_scf => exact key rfl rfl (covers_setF _ s)
  | h_ccf => exact key rfl rfl (covers_setF _ s)
  | h_jp_nn nn => exact key rfl rfl (covers_jump nn s)
  | h_jr_e e => exact key rfl rfl (covers_jump _ s)
  | h_jp_hl => exact key rfl rfl ((Footprint.Covers.refl { pc := true } s).setPc rfl s.cpu.hl)
  | h_call_nn nn => exact key rfl rfl (covers_call nn s)
  | h_ret => exact key rfl rfl (covers_ret s)
  | h_reti => exact absurd (.inr (.inr (.inl rfl))) hctl
  | h_halt => exact absurd (.inr (.inr (.inr (.inl rfl)))) hctl
  | h_di => exact absurd (.inl rfl) hctl
  | h_ei => exact absurd (.inr (.inl rfl)) hctl
  | h_stop x => exact absurd (.inr (.inr (.inr (.inr ⟨x, rfl⟩)))) hctl
  | h_prefixCb => exact absurd hwf (by decide)
  | h_undef_d3 => exact undefined hx
  | h_undef_db => exact undefined hx
  | h_undef_dd => exact undefined hx
  | h_undef_e3 => exact undefined hx
  | h_undef_e4 => exact undefined hx
  | h_undef_eb => exact undefined hx
  | h_undef_ec => exact undefined hx
  | h_undef_ed => exact undefined hx
  | h_undef_f4 => exact undefined hx
  | h_undef_fc => exact undefined hx
  | h_undef_fd => exact undefined hx

/-! The five that change the control state. -/

/-- HALT halts, or sets the halt bug when IME = 0 and an interrupt is pending (46_cpu_control R291). -/
theorem State.halt_eq (s : State) :
    s.halt = s.setCpu
      { s.cpu with
        halted := s.cpu.halted || !decide (s.cpu.ime = false ∧ s.ints.pend ≠ 0)
        haltBug := s.cpu.haltBug || decide (s.cpu.ime = false ∧ s.ints.pend ≠ 0) } := by
  unfold State.halt
  by_cases hc : s.cpu.ime = false ∧ s.ints.pend ≠ 0
  · rw [if_pos hc, decide_eq_true hc]
    simp
  · rw [if_neg hc, decide_eq_false hc]
    simp

theorem exec_stop_next {x : Byte} {s t : State} (h : exec (.stop x) s = .next t) : t = s.stopClock := by
  change exec_stop x s = .next t at h
  unfold exec_stop at h
  split at h <;> cases h
  rfl

/-- Settles O34: an instruction stays inside its footprint, and the five control instructions write the control bits their rules name. -/
theorem registerFrame : Obligations.RegisterFrame := by
  intro i s t hwf hx
  by_cases hctl : ChangesControl i
  · rcases hctl with rfl | rfl | rfl | rfl | ⟨x, rfl⟩
    · obtain rfl : s.disableInterrupts = t := exec_next_unique rfl hx
      exact ⟨fun r _ => by cases r <;> rfl, fun _ => rfl, fun _ => rfl, fun h => absurd rfl h, fun h => absurd rfl h,
        fun _ => ⟨rfl, rfl⟩, fun _ => .inl rfl⟩
    · obtain rfl : s.enableInterrupts = t := exec_next_unique rfl hx
      exact ⟨fun r _ => by cases r <;> rfl, fun _ => rfl, fun _ => rfl, fun _ _ => rfl, fun _ h => absurd rfl h,
        fun _ => ⟨rfl, rfl⟩, fun _ => .inl rfl⟩
    · obtain rfl : s.returnFromInterrupt = t := exec_next_unique rfl hx
      obtain ⟨hget, _, _, _, hei, hhalted, hbug, hstop⟩ := covers_ret s
      refine ⟨fun r _ => Eq.trans (by cases r <;> rfl) (hget r List.not_mem_nil), fun h => (nomatch h), fun h => (nomatch h),
        fun _ h => absurd rfl h, fun _ _ => hei, fun _ => ⟨hhalted, hbug⟩, fun _ => hstop⟩
    · obtain rfl : s.halt = t := exec_next_unique rfl hx
      rw [State.halt_eq]
      exact ⟨fun r _ => by cases r <;> rfl, fun _ => rfl, fun _ => rfl, fun _ _ => rfl, fun _ _ => rfl, fun h => absurd rfl h,
        fun _ => .inl rfl⟩
    · obtain rfl := exec_stop_next hx
      exact ⟨fun r _ => by cases r <;> rfl, fun _ => rfl, fun _ => rfl, fun _ _ => rfl, fun _ _ => rfl, fun _ => ⟨rfl, rfl⟩,
        fun h => absurd rfl (h x)⟩
  · have h := exec_covers i hwf hctl hx
    exact ⟨h.get, h.sp, h.pc, fun _ _ => h.ime, fun _ _ => h.eiPending, fun _ => ⟨h.halted, h.haltBug⟩, fun _ => h.stopped⟩

end Sys2Proof.Machine
end

section
/-! SUPPORT and PROOFS of O11 and O39. The opcode an instruction is fetched from, the CPU after a dispatch and at the start of an instruction, and
the control state after a step. -/

namespace Sys2Proof

/-! The opcode of an instruction. -/

theorem Byte.cases_fields {P : Byte → Prop} (h : ∀ (x : BitVec 2) (y z : BitVec 3), P (x ++ y ++ z)) (op : Byte) : P op := by
  have e : fieldX op ++ fieldY op ++ fieldZ op = op := by revert op; decide
  exact e ▸ h (fieldX op) (fieldY op) (fieldZ op)

theorem bits2_cases {P : BitVec 2 → Prop} (h0 : P 0) (h1 : P 1) (h2 : P 2) (h3 : P 3) (b : BitVec 2) : P b := by
  match b with
  | 0 => exact h0
  | 1 => exact h1
  | 2 => exact h2
  | 3 => exact h3

/-- The first byte of the encoding of what an entry makes of its operand bytes. -/
def Entry.firstByte (e : Entry) (n : Byte) (nn : Word) : Option Byte :=
  match e with
  | .one i => (encode i).head?
  | .two f => (encode (f n)).head?
  | .stop => (encode (.stop n)).head?
  | .three f => (encode (f nn)).head?
  | .prefixCb => some 0xCB

/-- Every entry of the base table makes instructions that are encoded with its opcode first (30_encoding R132). -/
theorem lookup_firstByte (n : Byte) (nn : Word) (op : Byte) : (lookup op).firstByte n nn = some op := by
  revert op
  refine Byte.cases_fields (bits2_cases ?_ ?_ ?_ ?_) <;> refine Machine.bits3_cases ?_ ?_ ?_ ?_ ?_ ?_ ?_ ?_ <;>
    refine Machine.bits3_cases ?_ ?_ ?_ ?_ ?_ ?_ ?_ ?_ <;> rfl

theorem encode_lookupCb (op2 : Byte) : encode (lookupCb op2) = [0xCB, op2] := by revert op2; decide

end Sys2Proof

namespace Sys2Proof.Machine

theorem fetchOperands_firstByte (s : State) (op : Byte) : (encode (s.fetchOperands (lookup op)).1).head? = some op := by
  have h := lookup_firstByte s.fetch8.1 s.fetch16.1 op
  cases he : lookup op with
  | one i => rwa [he] at h
  | two f => rwa [he] at h
  | stop => rwa [he] at h
  | three f => rwa [he] at h
  | prefixCb =>
    rw [he] at h
    show (encode (lookupCb s.fetch8.1)).head? = some op
    rw [encode_lookupCb]
    exact h

/-- The byte at PC is the first of the instruction the next step executes. -/
theorem State.nextInstr_firstByte (s : State) : (encode s.nextInstr).head? = some (s.read s.cpu.pc) := by
  have h := fetchOperands_firstByte s.awake.fetchOpcode.2 (s.awake.read s.cpu.pc)
  rw [State.read_awake] at h
  rw [← h, ← State.read_awake s]
  rfl

theorem State.read_pc_of_nextInstr {s : State} {i : Instr} {op : Byte} (hi : s.nextInstr = i) (hop : (encode i).head? = some op) :
    s.read s.cpu.pc = op :=
  Option.some.inj ((s.nextInstr_firstByte.symm.trans (by rw [hi])).trans hop)

/-- What is fetched when the byte at PC is `op`. -/
theorem State.awake_fetchInstr (s : State) {op : Byte} (hop : s.read s.cpu.pc = op) :
    s.awake.fetchInstr = s.awake.fetchOpcode.2.fetchOperands (lookup op) := by
  have h : s.awake.fetchOpcode.1 = op := (State.read_awake s _).trans hop
  rw [State.fetchInstr, h]

theorem State.nextInstr_wellFormed (s : State) : s.nextInstr.wellFormed = true := by
  refine decide_eq_true fun hi => ?_
  have hfetch := s.awake_fetchInstr (State.read_pc_of_nextInstr hi rfl)
  have hcb : lookupCb s.awake.fetchOpcode.2.fetch8.1 = .prefixCb := Eq.trans (by rw [State.nextInstr, hfetch]; rfl) hi
  have := encode_lookupCb s.awake.fetchOpcode.2.fetch8.1
  rw [hcb] at this
  cases this

theorem State.nextInstr_stop_iff (s : State) : (∃ x, s.nextInstr = .stop x) ↔ s.read s.cpu.pc = 0x10 := by
  constructor
  · rintro ⟨x, hi⟩
    exact State.read_pc_of_nextInstr hi rfl
  · intro hop
    exact ⟨_, congrArg Prod.fst (s.awake_fetchInstr hop)⟩

/-- HALT is one byte: no device time passes before it executes. -/
theorem State.awake_fetchInstr_ints_of_halt {s : State} (hi : s.nextInstr = .halt) : s.awake.fetchInstr.2.ints = s.ints := by
  rw [s.awake_fetchInstr (State.read_pc_of_nextInstr hi rfl)]
  rfl

/-! The CPU after a dispatch. -/

theorem State.store_cpu_running {s : State} (h : s.cpu.stopped = false) (a : Word) (v : Byte) : (s.store a v).cpu = s.cpu := by
  rw [State.store, State.write_cpu_running _ _ _ (by simpa using h), State.mcycle_cpu]

theorem State.takeInterrupt_cpu {s : State} (h : s.cpu.stopped = false) (k : Source) :
    (s.takeInterrupt k).cpu = { s.cpu with ime := false, eiPending := false, sp := s.cpu.sp - 2, pc := k.vector } := by
  have hack : (s.acknowledged k).mcycle.cpu.stopped = false := by simpa [State.acknowledged] using h
  have hw : ∀ (a b : Word) (v w : Byte), (((s.acknowledged k).mcycle.store a v).store b w).cpu = (s.acknowledged k).cpu := by
    intro a b v w
    have h1 := State.store_cpu_running hack a v
    rw [State.store_cpu_running (by rwa [h1]), h1, State.mcycle_cpu]
  rw [State.takeInterrupt_eq s (s.acknowledged k) _ k rfl rfl, State.setCpu_cpu, hw]
  rfl

/-- The CPU after a step that dispatches. -/
theorem step_dispatch_cpu {s : State} {k : Source} (hs : s.cpu.stopped = false) (hi : s.cpu.ime = true) (hk : s.ints.pending = some k) :
    ∃ t, step s = .next t ∧
      t.cpu = { s.cpu with halted := false, ime := false, eiPending := false, sp := s.cpu.sp - 2, pc := k.vector } := by
  refine ⟨_, step_dispatch hs hi hk, ?_⟩
  rw [State.finish_cpu, State.takeInterrupt_cpu (s := s.roused) hs]
  rfl

/-! The control state after an instruction. -/

/-- An instruction executed as a step executes it: the EI latch applied, the halt bug consumed, the CPU awake. -/
theorem exec_control {i : Instr} {s t : State} (hwf : i.wellFormed = true) (hei : s.cpu.eiPending = false) (hhalted : s.cpu.halted = false)
    (hbug : s.cpu.haltBug = false) (hstopped : s.cpu.stopped = false) (hx : exec i s = .next t) :
    t.cpu.ime = (if i = .di then false else if i = .reti then true else s.cpu.ime) ∧
    t.cpu.eiPending = decide (i = .ei) ∧
    t.cpu.halted = decide (i = .halt ∧ (s.cpu.ime = true ∨ s.ints.pend = 0)) ∧
    t.cpu.haltBug = decide (i = .halt ∧ s.cpu.ime = false ∧ s.ints.pend ≠ 0) ∧
    (t.cpu.stopped = true ↔ ∃ x, i = .stop x) := by
  by_cases hctl : ChangesControl i
  · rcases hctl with rfl | rfl | rfl | rfl | ⟨x, rfl⟩
    · obtain rfl : s.disableInterrupts = t := exec_next_unique rfl hx
      simp [State.disableInterrupts, *]
    · obtain rfl : s.enableInterrupts = t := exec_next_unique rfl hx
      simp [State.enableInterrupts, *]
    · obtain rfl : s.returnFromInterrupt = t := exec_next_unique rfl hx
      simp [State.returnFromInterrupt, State.ret_eq, *]
    · obtain rfl : s.halt = t := exec_next_unique rfl hx
      simp [State.halt_eq, *]
    · obtain rfl := exec_stop_next hx
      simp [State.stopClock, *]
  · have h := exec_covers i hwf hctl hx
    have tstopped : t.cpu.stopped = false := by
      rcases h.stopped with e | ⟨e, _⟩
      · exact e.trans hstopped
      · exact e
    obtain ⟨ndi, nei, nreti, nhalt, nstop⟩ : i ≠ .di ∧ i ≠ .ei ∧ i ≠ .reti ∧ i ≠ .halt ∧ ∀ x, i ≠ .stop x := by
      simpa [ChangesControl] using hctl
    rw [h.ime, h.eiPending, h.halted, h.haltBug, tstopped]
    simp [*]

/-- The control state after the instruction of a step, from the state before the step. -/
theorem executed_control {s t : State} (hs : s.cpu.stopped = false) (hx : exec s.nextInstr s.awake.fetchInstr.2 = .next t) :
    t.cpu.ime = (if s.nextInstr = .di then false else if s.nextInstr = .reti then true else s.cpu.ime || s.cpu.eiPending) ∧
    t.cpu.eiPending = decide (s.nextInstr = .ei) ∧
    t.cpu.halted = decide (s.nextInstr = .halt ∧ ((s.cpu.ime || s.cpu.eiPending) = true ∨ s.ints.pend = 0)) ∧
    t.cpu.haltBug = decide (s.nextInstr = .halt ∧ (s.cpu.ime || s.cpu.eiPending) = false ∧ s.ints.pend ≠ 0) ∧
    t.cpu.stopped = decide (s.read s.cpu.pc = 0x10) := by
  obtain ⟨p, hcpu⟩ := s.awake_fetchInstr_cpu
  have fime : s.awake.fetchInstr.2.cpu.ime = (s.cpu.ime || s.cpu.eiPending) := congrArg Cpu.ime hcpu
  obtain ⟨time, tei, thalted, tbug, tstopped⟩ := exec_control s.nextInstr_wellFormed (congrArg Cpu.eiPending hcpu)
    (congrArg Cpu.halted hcpu) (congrArg Cpu.haltBug hcpu) ((congrArg Cpu.stopped hcpu).trans hs) hx
  rw [fime] at time thalted tbug
  refine ⟨time, tei, thalted.trans ?_, tbug.trans ?_, ?_⟩
  · exact decide_eq_decide.mpr (and_congr_right fun hi => by rw [State.awake_fetchInstr_ints_of_halt hi])
  · exact decide_eq_decide.mpr (and_congr_right fun hi => by rw [State.awake_fetchInstr_ints_of_halt hi])
  · rw [Bool.eq_iff_iff, tstopped, decide_eq_true_eq, s.nextInstr_stop_iff]

/-- Settles O11: a stopped or idle step keeps the CPU, a dispatch and an executed instruction change the control state by their rules. -/
theorem controlStateChanges : Obligations.ControlStateChanges := by
  intro s t h
  refine ⟨fun hs => ?_, fun hs hh hp => ?_, fun hs hi hp => ?_, fun hx => ?_⟩
  · obtain rfl := Host.Outcome.next.inj ((step_stopped hs).symm.trans h)
    rfl
  · obtain rfl := Host.Outcome.next.inj ((step_idle hs hh hp).symm.trans h)
    exact s.beginStep.finish_cpu
  · obtain ⟨k, hk⟩ := Interrupts.exists_pending hp
    obtain ⟨u, hu, hcpu⟩ := step_dispatch_cpu hs hi hk
    obtain rfl := Host.Outcome.next.inj (hu.symm.trans h)
    simp [hcpu, hs]
  · rw [step_executes hx] at h
    obtain ⟨u, hu, rfl⟩ := Answer.andThen_next h
    rw [State.finish_cpu]
    exact executed_control hx.1 hu

/-- Settles O39: EI leaves IME at 0 for the one instruction that follows, and IME = 1 with a source pending is a dispatch. -/
theorem eiDelay : Obligations.EiDelay := by
  intro s t hx hime hei hi h
  obtain ⟨_, _, _, hexec⟩ := controlStateChanges s t h
  obtain ⟨time, tei, thalted, _, tstopped⟩ := hexec hx
  rw [State.read_pc_of_nextInstr hi rfl] at tstopped
  simp only [hi, hime, hei] at time tei thalted
  have tx : t.Executes := ⟨tstopped, fun hh => by simp [thalted] at hh, fun ht => by simp [time] at ht⟩
  refine ⟨time, tei, tx, fun u hu => ?_⟩
  obtain ⟨_, _, _, hexec'⟩ := controlStateChanges t u hu
  obtain ⟨uime, _⟩ := hexec' tx
  have uon : t.nextInstr ≠ .di → u.cpu.ime = true := fun hdi => by simp [uime, hdi, tei]
  refine ⟨uon, fun hdi ustopped upend => ?_⟩
  obtain ⟨k, hk⟩ := Interrupts.exists_pending upend
  obtain ⟨v, hv, vcpu⟩ := step_dispatch_cpu ustopped (uon hdi) hk
  exact ⟨k, v, hv, by rw [vcpu]; rfl, by rw [vcpu]⟩

end Sys2Proof.Machine
end

section
/-! SUPPORT and PROOFS of O40, O41, O44 and O45. The region of every address from its range, what a read and a write of each region are, and the
gates of the regions that have one. -/

namespace Sys2Proof.Machine

/-! The region of an address in a range (20_memory R61). -/

theorem regionOf_eq_rom {a : Word} (h : a.toNat < 0x8000) : regionOf a = .rom := if_pos h

theorem regionOf_eq_vram {a : Word} (h1 : 0x8000 ≤ a.toNat) (h2 : a.toNat ≤ 0x9FFF) : regionOf a = .vram := by
  rw [regionOf, if_neg (by omega), if_pos (by omega)]

theorem regionOf_eq_cartRam {a : Word} (h1 : 0xA000 ≤ a.toNat) (h2 : a.toNat ≤ 0xBFFF) : regionOf a = .cartRam := by
  rw [regionOf, if_neg (by omega), if_neg (by omega), if_pos (by omega)]

theorem regionOf_eq_wram {a : Word} (h1 : 0xC000 ≤ a.toNat) (h2 : a.toNat ≤ 0xDFFF) : regionOf a = .wram := by
  rw [regionOf]
  iterate 3 rw [if_neg (by omega)]
  rw [if_pos (by omega)]

theorem regionOf_eq_echo {a : Word} (h1 : 0xE000 ≤ a.toNat) (h2 : a.toNat ≤ 0xFDFF) : regionOf a = .echo := by
  rw [regionOf]
  iterate 4 rw [if_neg (by omega)]
  rw [if_pos (by omega)]

theorem regionOf_eq_oam {a : Word} (h1 : 0xFE00 ≤ a.toNat) (h2 : a.toNat ≤ 0xFE9F) : regionOf a = .oam := by
  rw [regionOf]
  iterate 5 rw [if_neg (by omega)]
  rw [if_pos (by omega)]

theorem regionOf_eq_unusable {a : Word} (h1 : 0xFEA0 ≤ a.toNat) (h2 : a.toNat ≤ 0xFEFF) : regionOf a = .unusable := by
  rw [regionOf]
  iterate 6 rw [if_neg (by omega)]
  rw [if_pos (by omega)]

theorem regionOf_eq_io {a : Word} (h1 : 0xFF00 ≤ a.toNat) (h2 : a.toNat ≤ 0xFF7F) : regionOf a = .io := by
  rw [regionOf]
  iterate 7 rw [if_neg (by omega)]
  rw [if_pos (by omega)]

theorem regionOf_eq_hram {a : Word} (h1 : 0xFF80 ≤ a.toNat) (h2 : a.toNat ≤ 0xFFFE) : regionOf a = .hram := by
  rw [regionOf]
  iterate 8 rw [if_neg (by omega)]
  rw [if_pos (by omega)]

theorem regionOf_eq_ie {a : Word} (h : a.toNat = 0xFFFF) : regionOf a = .ie := by
  rw [regionOf]
  iterate 9 rw [if_neg (by omega)]

/-! The regions without a gate (R64, R67, R68, R70, R72, R73). -/

section
variable (s : State) {a : Word} (v : Byte)

theorem State.read_rom (h : regionOf a = .rom) : s.read a = s.cart.readRom a.toNat := by rw [State.read, h]
theorem State.write_rom (h : regionOf a = .rom) : s.write a v = { s with cart := s.cart.writeRom a.toNat v } := by rw [State.write, h]

theorem State.read_wram (h : regionOf a = .wram) : s.read a = s.wram.read (a.toNat - 0xC000) := by rw [State.read, h]
theorem State.write_wram (h : regionOf a = .wram) : s.write a v = { s with wram := s.wram.write (a.toNat - 0xC000) v } := by
  rw [State.write, h]

theorem State.read_echo (h : regionOf a = .echo) : s.read a = s.wram.read (a.toNat - 0xE000) := by rw [State.read, h]
theorem State.write_echo (h : regionOf a = .echo) : s.write a v = { s with wram := s.wram.write (a.toNat - 0xE000) v } := by
  rw [State.write, h]

theorem State.read_unusable (h : regionOf a = .unusable) : s.read a = s.cfg.openBus := by rw [State.read, h]
theorem State.write_unusable (h : regionOf a = .unusable) : s.write a v = s := by rw [State.write, h]

theorem State.read_hram (h : regionOf a = .hram) : s.read a = s.hram.read (a.toNat - 0xFF80) := by rw [State.read, h]
theorem State.write_hram (h : regionOf a = .hram) : s.write a v = { s with hram := s.hram.write (a.toNat - 0xFF80) v } := by
  rw [State.write, h]

theorem State.read_ie (h : regionOf a = .ie) : s.read a = s.ints.ie := by rw [State.read, h]
theorem State.write_ie (h : regionOf a = .ie) : s.write a v = { s with ints := { s.ints with ie := v } } := by rw [State.write, h]

/-! The regions with a gate (R65, R66, R69): open they reach their byte, closed they read OPEN_BUS and drop the write. -/

theorem State.read_vram (h : regionOf a = .vram) : s.read a = s.ppu.readVram s.cfg.openBus (a.toNat - 0x8000) := by rw [State.read, h]
theorem State.write_vram (h : regionOf a = .vram) : s.write a v = { s with ppu := s.ppu.writeVram (a.toNat - 0x8000) v } := by
  rw [State.write, h]

theorem State.vram_open (h : regionOf a = .vram) (ho : s.ppu.vramOpen = true) :
    s.read a = s.ppu.vram.read (a.toNat - 0x8000) ∧
    s.write a v = { s with ppu := { s.ppu with vram := s.ppu.vram.write (a.toNat - 0x8000) v } } := by
  rw [s.read_vram h, s.write_vram v h, Ppu.readVram, Ppu.writeVram, if_pos ho, if_pos ho]
  exact ⟨rfl, rfl⟩

theorem State.vram_closed (h : regionOf a = .vram) (ho : ¬ s.ppu.vramOpen = true) : s.read a = s.cfg.openBus ∧ s.write a v = s := by
  rw [s.read_vram h, s.write_vram v h, Ppu.readVram, Ppu.writeVram, if_neg ho, if_neg ho]
  exact ⟨rfl, rfl⟩

theorem State.read_oam (h : regionOf a = .oam) : s.read a = s.ppu.readOam s.cfg.openBus (a.toNat - 0xFE00) := by rw [State.read, h]
theorem State.write_oam (h : regionOf a = .oam) : s.write a v = { s with ppu := s.ppu.writeOam (a.toNat - 0xFE00) v } := by
  rw [State.write, h]

theorem State.oam_open (h : regionOf a = .oam) (ho : s.ppu.oamOpen = true) :
    s.read a = s.ppu.oam.read (a.toNat - 0xFE00) ∧
    s.write a v = { s with ppu := { s.ppu with oam := s.ppu.oam.write (a.toNat - 0xFE00) v } } := by
  rw [s.read_oam h, s.write_oam v h, Ppu.readOam, Ppu.writeOam, if_pos ho, if_pos ho]
  exact ⟨rfl, rfl⟩

theorem State.oam_closed (h : regionOf a = .oam) (ho : ¬ s.ppu.oamOpen = true) : s.read a = s.cfg.openBus ∧ s.write a v = s := by
  rw [s.read_oam h, s.write_oam v h, Ppu.readOam, Ppu.writeOam, if_neg ho, if_neg ho]
  exact ⟨rfl, rfl⟩

theorem State.read_cartRam (h : regionOf a = .cartRam) : s.read a = s.cart.readRam s.cfg.openBus a.toNat := by rw [State.read, h]
theorem State.write_cartRam (h : regionOf a = .cartRam) : s.write a v = { s with cart := s.cart.writeRam a.toNat v } := by
  rw [State.write, h]

theorem State.cartRam_open (h : regionOf a = .cartRam) (ho : s.cart.ramOpen = true) :
    s.read a = s.cart.ram.read (s.cart.ramOffset a.toNat) ∧
    s.write a v = { s with cart := { s.cart with ram := s.cart.ram.write (s.cart.ramOffset a.toNat) v } } := by
  rw [s.read_cartRam h, s.write_cartRam v h, Cartridge.readRam, Cartridge.writeRam, if_pos ho, if_pos ho]
  exact ⟨rfl, rfl⟩

theorem State.cartRam_closed (h : regionOf a = .cartRam) (ho : ¬ s.cart.ramOpen = true) : s.read a = s.cfg.openBus ∧ s.write a v = s := by
  rw [s.read_cartRam h, s.write_cartRam v h, Cartridge.readRam, Cartridge.writeRam, if_neg ho, if_neg ho]
  exact ⟨rfl, rfl⟩

end

/-- When the PPU lets the CPU at VRAM (61_ppu R383). -/
theorem Ppu.vramOpen_iff (p : Ppu) : p.vramOpen = true ↔ ¬ (p.lcdc.getLsbD 7 = true ∧ p.mode = .transfer) := by
  simp only [Ppu.vramOpen, Ppu.lcdOn, Bool.not_eq_true', ← Bool.not_eq_true, Bool.and_eq_true, decide_eq_true_eq]

/-- When the PPU lets the CPU at OAM (61_ppu R383). -/
theorem Ppu.oamOpen_iff (p : Ppu) :
    p.oamOpen = true ↔ ¬ (p.lcdc.getLsbD 7 = true ∧ (p.mode = .oamScan ∨ p.mode = .transfer)) := by
  simp only [Ppu.oamOpen, Ppu.lcdOn, Bool.not_eq_true', ← Bool.not_eq_true, Bool.and_eq_true, Bool.or_eq_true, decide_eq_true_eq]

/-- When cartridge RAM is reached (R105, R108). -/
theorem Cartridge.ramOpen_iff (c : Cartridge) : c.ramOpen = true ↔ c.kind = .mbc1 ∧ c.ramSize ≠ 0 ∧ c.mbc.ramEnable = true := by
  unfold Cartridge.ramOpen
  cases c.kind <;> simp

/-- Settles O41: each region is open or closed by its gate. -/
theorem gatedRegions : Obligations.GatedRegions := by
  intro s a v
  refine ⟨fun h1 h2 => ⟨fun hc => ?_, fun ho => ?_⟩, fun h1 h2 => ⟨fun hc => ?_, fun ho => ?_⟩, fun h1 h2 hc => ?_⟩
  · exact s.vram_closed v (regionOf_eq_vram h1 h2) fun ho => s.ppu.vramOpen_iff.mp ho hc
  · exact s.vram_open v (regionOf_eq_vram h1 h2) (s.ppu.vramOpen_iff.mpr ho)
  · exact s.oam_closed v (regionOf_eq_oam h1 h2) fun ho => s.ppu.oamOpen_iff.mp ho hc
  · exact s.oam_open v (regionOf_eq_oam h1 h2) (s.ppu.oamOpen_iff.mpr ho)
  · refine s.cartRam_closed v (regionOf_eq_cartRam h1 h2) fun ho => ?_
    obtain ⟨hkind, hsize, henable⟩ := s.cart.ramOpen_iff.mp ho
    simp [hkind, hsize, henable] at hc

/-! The registers of the I/O page in numbers. -/

theorem Serial.toNat_readSc (c : Serial) : c.readSc.toNat = 0x7E + 128 * c.sc7.toNat + c.sc0.toNat := by
  unfold Serial.readSc
  cases c.sc7 <;> cases c.sc0 <;> rfl

theorem Interrupts.toNat_readIf (i : Interrupts) : i.readIf.toNat = 0xE0 + i.flags.toNat := by
  unfold Interrupts.readIf
  generalize i.flags = f
  revert f
  decide

theorem Interrupts.writeIf_eq (i : Interrupts) (v : Byte) : i.writeIf v = { i with flags := BitVec.ofNat 5 v.toNat } := by
  have e : ∀ v : Byte, v.extractLsb' 0 5 = BitVec.ofNat 5 v.toNat := by decide
  rw [Interrupts.writeIf, e]

theorem Ppu.toNat_readStat (p : Ppu) :
    p.readStat.toNat = 128 + 8 * p.statMask.toNat + 4 * (decide (p.ly = p.lyc.toNat)).toNat + p.mode.number.toNat := by
  have e : ∀ (m : BitVec 4) (c : Bool) (n : BitVec 2),
      ((1 : BitVec 1) ++ m ++ BitVec.ofBool c ++ n).toNat = 128 + 8 * m.toNat + 4 * c.toNat + n.toNat := by decide
  exact e _ _ _

theorem Ppu.storeStat_eq (p : Ppu) (v : Byte) : p.storeStat v = { p with statMask := BitVec.ofNat 4 (v.toNat / 8) } := by
  have e : ∀ v : Byte, v.extractLsb' 3 4 = BitVec.ofNat 4 (v.toNat / 8) := by decide
  rw [Ppu.storeStat, e]

theorem Ppu.toNat_readLy {p : Ppu} (h : p.ly ≤ 153) : p.readLy.toNat = p.ly := by
  rw [Ppu.readLy, BitVec.toNat_ofNat, Nat.mod_eq_of_lt (by omega)]

theorem apuRegAt_eq_none {k : Nat} (h : k = 0x15 ∨ k = 0x1F ∨ 0x27 ≤ k) : apuRegAt k = none := by
  unfold apuRegAt
  split
  case h_22 => rfl
  all_goals omega

theorem deviceRegAt_eq_unmapped {k : Nat} (h : k = 0x03 ∨ 0x08 ≤ k ∧ k ≤ 0x0E ∨ 0x4C ≤ k) : deviceRegAt k = .unmapped := by
  unfold deviceRegAt
  split
  case h_21 => rfl
  all_goals omega

/-- The addresses of the I/O page that have no register (R74). -/
theorem ioRegOf_eq_unmapped {a : Word}
    (h : a.toNat = 0xFF03 ∨ 0xFF08 ≤ a.toNat ∧ a.toNat ≤ 0xFF0E ∨ a.toNat = 0xFF15 ∨ a.toNat = 0xFF1F ∨
      0xFF27 ≤ a.toNat ∧ a.toNat ≤ 0xFF2F ∨ 0xFF4C ≤ a.toNat ∧ a.toNat ≤ 0xFF7F) :
    ioRegOf a = .unmapped := by
  unfold ioRegOf
  dsimp only
  split
  · rw [apuRegAt_eq_none (by omega)]
  · rw [if_neg (by omega), deviceRegAt_eq_unmapped (by omega)]

/-- Settles O40: each region and each register by its equation. -/
theorem openRegions : Obligations.OpenRegions := by
  intro s a v
  refine ⟨?wram, ?echo, ?unusable, ?hram, ?ie, ?unmapped, ?sb, ?sc, ?ifReg, ?stat, ?lyc, ?scy, ?scx, ?ly, ?bgp, ?obp0, ?obp1, ?wy, ?wx, ?wave⟩
  case wram => exact fun h1 h2 => ⟨s.read_wram (regionOf_eq_wram h1 h2), s.write_wram v (regionOf_eq_wram h1 h2)⟩
  case echo =>
    intro h1 h2
    have hecho := regionOf_eq_echo h1 h2
    have hbelow : (a - 0x2000).toNat = a.toNat - 0x2000 := by bv_omega
    have hwram : regionOf (a - 0x2000) = .wram := regionOf_eq_wram (by omega) (by omega)
    have hoff : a.toNat - 0x2000 - 0xC000 = a.toNat - 0xE000 := by omega
    rw [s.read_echo hecho, s.write_echo v hecho, s.read_wram hwram, s.write_wram v hwram, hbelow, hoff]
    exact ⟨rfl, rfl⟩
  case unusable =>
    exact fun h1 h2 => ⟨s.read_unusable (regionOf_eq_unusable h1 h2), s.write_unusable v (regionOf_eq_unusable h1 h2)⟩
  case hram => exact fun h1 h2 => ⟨s.read_hram (regionOf_eq_hram h1 h2), s.write_hram v (regionOf_eq_hram h1 h2)⟩
  case ie => exact fun h => ⟨s.read_ie (regionOf_eq_ie h), s.write_ie v (regionOf_eq_ie h)⟩
  case unmapped =>
    intro h
    have hio : regionOf a = .io := regionOf_eq_io (by omega) (by omega)
    exact ⟨s.read_register hio (ioRegOf_eq_unmapped h), s.write_register v hio (ioRegOf_eq_unmapped h)⟩
  case sb => exact ⟨s.write_register v rfl ioRegOf_sb, s.read_register rfl ioRegOf_sb⟩
  case sc => exact ⟨s.write_register v rfl ioRegOf_sc, (congrArg _ (s.read_register rfl ioRegOf_sc)).trans s.serial.toNat_readSc⟩
  case ifReg =>
    rw [s.write_register v rfl ioRegOf_ifReg, s.read_register rfl ioRegOf_ifReg]
    exact ⟨congrArg (fun i => { s with ints := i }) (s.ints.writeIf_eq v), s.ints.toNat_readIf⟩
  case stat =>
    have hwrite : (s.write 0xFF41 v).ppu = (s.ppu.storeStat v).statUpdate := congrArg State.ppu (s.write_register v rfl ioRegOf_stat)
    rw [hwrite, s.read_register rfl ioRegOf_stat, Ppu.storeStat_eq]
    exact ⟨rfl, s.ppu.toNat_readStat⟩
  case lyc =>
    rw [s.write_register v rfl ioRegOf_lyc]
    exact ⟨rfl, s.read_register rfl ioRegOf_lyc⟩
  case scy => exact ⟨s.write_register v rfl ioRegOf_scy, s.read_register rfl ioRegOf_scy⟩
  case scx => exact ⟨s.write_register v rfl ioRegOf_scx, s.read_register rfl ioRegOf_scx⟩
  case ly =>
    exact ⟨s.write_register v rfl ioRegOf_ly, fun h => (congrArg _ (s.read_register rfl ioRegOf_ly)).trans (Ppu.toNat_readLy h)⟩
  case bgp => exact ⟨s.write_register v rfl ioRegOf_bgp, s.read_register rfl ioRegOf_bgp⟩
  case obp0 => exact ⟨s.write_register v rfl ioRegOf_obp0, s.read_register rfl ioRegOf_obp0⟩
  case obp1 => exact ⟨s.write_register v rfl ioRegOf_obp1, s.read_register rfl ioRegOf_obp1⟩
  case wy => exact ⟨s.write_register v rfl ioRegOf_wy, s.read_register rfl ioRegOf_wy⟩
  case wx => exact ⟨s.write_register v rfl ioRegOf_wx, s.read_register rfl ioRegOf_wx⟩
  case wave =>
    intro h1 h2
    have hio : regionOf a = .io := regionOf_eq_io (by omega) (by omega)
    exact ⟨s.read_register hio (ioRegOf_waveRam h1 h2), s.write_register v hio (ioRegOf_waveRam h1 h2)⟩

/-! The cartridge's banks. -/

theorem Cartridge.readRom_none {c : Cartridge} (h : c.kind = .none) (a : Nat) : c.readRom a = c.rom.read (a % c.romSize) := by
  rw [Cartridge.readRom, Cartridge.romOffset, h]

theorem Cartridge.writeRom_none {c : Cartridge} (h : c.kind = .none) (a : Nat) (v : Byte) : c.writeRom a v = c := by
  unfold Cartridge.writeRom
  split
  · rfl
  · next hk => exact nomatch h.symm.trans hk

theorem Cartridge.writeRom_mbc1 {c : Cartridge} (h : c.kind = .mbc1) (a : Nat) (v : Byte) :
    c.writeRom a v = { c with mbc := c.mbc.write a v } := by
  unfold Cartridge.writeRom
  split
  · next hk => exact nomatch h.symm.trans hk
  · rfl

/-- Below 0x4000 MBC1 shows bank 0 (R107). -/
theorem Cartridge.readRom_mbc1_low {c : Cartridge} (h : c.kind = .mbc1) {a : Nat} (ha : a < 0x4000) : c.readRom a = c.rom.read a := by
  rw [Cartridge.readRom, Cartridge.romOffset, h]
  exact congrArg _ (if_pos ha)

/-- From 0x4000 on MBC1 shows the selected bank (R107). -/
theorem Cartridge.readRom_mbc1_high {c : Cartridge} (h : c.kind = .mbc1) {a : Nat} (ha : 0x4000 ≤ a) :
    c.readRom a =
      c.rom.read ((c.mbc.bankHi.toNat * 32 + c.mbc.romBankLo.toNat) % (c.romSize / 0x4000) * 0x4000 + (a - 0x4000)) := by
  rw [Cartridge.readRom, Cartridge.romOffset, h]
  exact congrArg _ (if_neg (by omega))

/-- The bank registers of MBC1, in numbers (R106). -/
theorem Mbc.write_eq (m : Mbc) (a : Nat) (v : Byte) :
    m.write a v =
      if a < 0x2000 then { m with ramEnable := decide (v.toNat % 16 = 0xA) }
      else if a < 0x4000 then { m with romBankLo := if v.toNat % 32 = 0 then 1 else BitVec.ofNat 5 v.toNat }
      else if a < 0x6000 then { m with bankHi := BitVec.ofNat 2 v.toNat }
      else { m with mode := decide (v.toNat % 2 = 1) } := by
  have e : ∀ v : Byte, (v.extractLsb' 0 4 = 0xA#4 ↔ v.toNat % 16 = 0xA) ∧ (v.extractLsb' 0 5 = 0#5 ↔ v.toNat % 32 = 0) ∧
      v.extractLsb' 0 5 = BitVec.ofNat 5 v.toNat ∧ v.extractLsb' 0 2 = BitVec.ofNat 2 v.toNat ∧
      v.getLsbD 0 = decide (v.toNat % 2 = 1) := by decide
  obtain ⟨henable, hzero, hlo, hhi, hmode⟩ := e v
  simp only [Mbc.write, henable, hzero, hhi, hmode]
  rw [hlo]

/-- Settles O44: ROM reads and the bank registers by the controller, the RAM window by its gate. -/
theorem cartridgeBanks : Obligations.CartridgeBanks := by
  intro s a v
  refine ⟨fun hk => ⟨fun ha => ?_, fun h1 h2 => ?_⟩, fun hk =>
    ⟨fun ha => ?bank0, fun h1 h2 => ?selected, fun ha => ?registers, fun h1 h2 => ⟨fun hc => ?closed, fun hsize henable => ?opened⟩⟩⟩
  · rw [s.read_rom (regionOf_eq_rom ha), s.write_rom v (regionOf_eq_rom ha), Cartridge.writeRom_none hk]
    exact ⟨Cartridge.readRom_none hk _, rfl⟩
  · exact s.cartRam_closed v (regionOf_eq_cartRam h1 h2) fun ho => by simp [s.cart.ramOpen_iff, hk] at ho
  case bank0 => exact (s.read_rom (regionOf_eq_rom (by omega))).trans (Cartridge.readRom_mbc1_low hk ha)
  case selected => exact (s.read_rom (regionOf_eq_rom h2)).trans (Cartridge.readRom_mbc1_high hk h1)
  case registers => rw [s.write_rom v (regionOf_eq_rom ha), Cartridge.writeRom_mbc1 hk, Mbc.write_eq]
  case closed =>
    refine s.cartRam_closed v (regionOf_eq_cartRam h1 h2) fun ho => ?_
    obtain ⟨-, hsize, henable⟩ := s.cart.ramOpen_iff.mp ho
    simp [hsize, henable] at hc
  case opened => exact ⟨_, rfl, s.cartRam_open v (regionOf_eq_cartRam h1 h2) (s.cart.ramOpen_iff.mpr ⟨hk, hsize, henable⟩)⟩

/-! OAM DMA. -/

/-- Below 0xE000 the DMA engine reads what the bus reads in a state with the same memories in which VRAM is open (R75). -/
theorem State.rawRead_eq_read {s u : State} (hcfg : u.cfg = s.cfg) (hcart : u.cart = s.cart) (hwram : u.wram = s.wram)
    (hvram : u.ppu.vram = s.ppu.vram) (hopen : u.ppu.vramOpen = true) {a : Word} (h : a.toNat < 0xE000) : s.rawRead a.toNat = u.read a := by
  rw [State.rawRead, ← hcfg, ← hcart, ← hwram, ← hvram]
  split
  · next hrom => exact (u.read_rom (regionOf_eq_rom hrom)).symm
  · split
    · exact (u.vram_open 0 (regionOf_eq_vram (by omega) (by omega)) hopen).1.symm
    · split
      · exact (u.read_cartRam (regionOf_eq_cartRam (by omega) (by omega))).symm
      · exact (u.read_wram (regionOf_eq_wram (by omega) (by omega))).symm

theorem Memory.read_ofBytes_zero (bs : List Byte) (k : Nat) : (Memory.ofBytes bs 0).read k = bs.getD k 0 := by
  have h := Memory.read_ofBytes bs 0 k
  rwa [Nat.zero_add] at h

theorem State.read_dmaOam (s : State) (v : Byte) {i : Nat} (hi : i < 160) : (s.dmaOam v).read i = s.rawRead (dmaSource v i) := by
  rw [State.dmaOam, Memory.read_ofBytes_zero]
  simp [hi]

/-- Every byte copied lies below 0xE000 (R75). -/
theorem dmaSource_lt (v : Byte) {i : Nat} (hi : i < 160) : dmaSource v i < 0xE000 := by
  have hv := v.isLt
  unfold dmaSource
  dsimp only
  split <;> omega

/-- Settles O45: the copy is the write, and the register holds what was written. -/
theorem oamDma : Obligations.OamDma := by
  intro s t v ht
  have hwrite : t = { s with ppu := { s.ppu with dma := v, oam := s.dmaOam v } } := ht.trans (s.write_register v rfl ioRegOf_dma)
  have hoam : t.ppu.oam = s.dmaOam v := congrArg (fun t => t.ppu.oam) hwrite
  refine ⟨?_, fun cfg cart => State.read_register _ rfl ioRegOf_dma, ?_, fun i src hi hsrc => ?_⟩
  · rw [hwrite]
    exact State.read_register _ rfl ioRegOf_dma
  · rw [hoam]
    exact hwrite
  · have hlt := dmaSource_lt v hi
    have hsource : src.toNat = dmaSource v i := by
      rw [hsrc, BitVec.toNat_ofNat]
      exact Nat.mod_eq_of_lt (hlt.trans (by decide))
    rw [hoam, s.read_dmaOam v hi, ← hsource]
    have hopen : Ppu.vramOpen { s.ppu with lcdc := 0 } = true := by simp [Ppu.vramOpen_iff]
    exact State.rawRead_eq_read (u := { s with ppu := { s.ppu with lcdc := 0 } }) rfl rfl rfl rfl hopen (hsource ▸ hlt)

end Sys2Proof.Machine
end

section
/-! SUPPORT and PROOF of O43. What a write leaves unchanged, one lemma per part of the state, and the one device that a write of an I/O register
changes. -/

namespace Sys2Proof.Machine

/-! A write of an I/O register. -/

@[simp] theorem Ppu.storeLcdc_vram (p : Ppu) (v : Byte) : (p.storeLcdc v).vram = p.vram := by
  unfold Ppu.storeLcdc
  split <;> rfl

@[simp] theorem Ppu.storeLcdc_oam (p : Ppu) (v : Byte) : (p.storeLcdc v).oam = p.oam := by
  unfold Ppu.storeLcdc
  split <;> rfl

theorem State.writeIo_cart (s : State) (r : IoReg) (v : Byte) : (s.writeIo r v).cart = s.cart := by cases r <;> rfl

theorem State.writeIo_wram (s : State) (r : IoReg) (v : Byte) : (s.writeIo r v).wram = s.wram := by cases r <;> rfl

theorem State.writeIo_hram (s : State) (r : IoReg) (v : Byte) : (s.writeIo r v).hram = s.hram := by cases r <;> rfl

theorem State.writeIo_ie (s : State) (r : IoReg) (v : Byte) : (s.writeIo r v).ints.ie = s.ints.ie := by cases r <;> rfl

theorem State.writeIo_vram (s : State) (r : IoReg) (v : Byte) : (s.writeIo r v).ppu.vram = s.ppu.vram := by
  cases r with
  | lcdc => exact s.ppu.storeLcdc_vram v
  | _ => rfl

/-- OAM is written from the I/O page by DMA alone (R75). -/
theorem State.writeIo_oam (s : State) {r : IoReg} (hr : r ≠ .dma) (v : Byte) : (s.writeIo r v).ppu.oam = s.ppu.oam := by
  cases r with
  | lcdc => exact s.ppu.storeLcdc_oam v
  | dma => exact absurd rfl hr
  | _ => rfl

theorem deviceRegAt_eq_dma {k : Nat} (h : deviceRegAt k = .dma) : k = 0x46 := by
  unfold deviceRegAt at h
  split at h <;> cases h
  rfl

theorem ioRegOf_eq_dma {a : Word} (h : ioRegOf a = .dma) : a.toNat = 0xFF46 := by
  unfold ioRegOf at h
  dsimp only at h
  split at h
  · split at h <;> cases h
  · split at h
    · cases h
    · have := deviceRegAt_eq_dma h
      omega

/-! Every write. -/

/-- The cartridge's kind, sizes and image are the same after every write. -/
theorem State.write_cart (s : State) (a : Word) (v : Byte) :
    (s.write a v).cart = { s.cart with mbc := (s.write a v).cart.mbc, ram := (s.write a v).cart.ram } := by
  unfold State.write
  cases regionOf a with
  | io => rw [State.writeIo_cart]
  | _ => rfl

section
variable (s : State) {a : Word} (v : Byte)

theorem State.write_mbc_of_ne (h : regionOf a ≠ .rom) : (s.write a v).cart.mbc = s.cart.mbc := by
  unfold State.write
  cases hr : regionOf a with
  | rom => exact absurd hr h
  | io => exact congrArg Cartridge.mbc (s.writeIo_cart _ v)
  | _ => rfl

theorem State.write_cartRam_of_ne (h : regionOf a ≠ .cartRam) : (s.write a v).cart.ram = s.cart.ram := by
  unfold State.write
  cases hr : regionOf a with
  | cartRam => exact absurd hr h
  | io => exact congrArg Cartridge.ram (s.writeIo_cart _ v)
  | _ => rfl

theorem State.write_wram_of_ne (h : regionOf a ≠ .wram) (h' : regionOf a ≠ .echo) : (s.write a v).wram = s.wram := by
  unfold State.write
  cases hr : regionOf a with
  | wram => exact absurd hr h
  | echo => exact absurd hr h'
  | io => exact s.writeIo_wram _ v
  | _ => rfl

theorem State.write_hram_of_ne (h : regionOf a ≠ .hram) : (s.write a v).hram = s.hram := by
  unfold State.write
  cases hr : regionOf a with
  | hram => exact absurd hr h
  | io => exact s.writeIo_hram _ v
  | _ => rfl

theorem State.write_vram_of_ne (h : regionOf a ≠ .vram) : (s.write a v).ppu.vram = s.ppu.vram := by
  unfold State.write
  cases hr : regionOf a with
  | vram => exact absurd hr h
  | io =>
    dsimp only
    exact s.writeIo_vram _ v
  | _ => rfl

theorem State.write_oam_of_ne (h : regionOf a ≠ .oam) (hdma : a ≠ 0xFF46) : (s.write a v).ppu.oam = s.ppu.oam := by
  unfold State.write
  cases hr : regionOf a with
  | oam => exact absurd hr h
  | io =>
    dsimp only
    exact s.writeIo_oam (fun hr => hdma (BitVec.eq_of_toNat_eq (ioRegOf_eq_dma hr))) v
  | _ => rfl

theorem State.write_ie_of_ne (h : regionOf a ≠ .ie) : (s.write a v).ints.ie = s.ints.ie := by
  unfold State.write
  cases hr : regionOf a with
  | ie => exact absurd hr h
  | io =>
    dsimp only
    exact s.writeIo_ie _ v
  | _ => rfl

/-- Outside the I/O page no write reaches a device's registers. -/
theorem State.write_devices_of_ne (h : regionOf a ≠ .io) :
    (s.write a v).ints.flags = s.ints.flags ∧ (s.write a v).timer = s.timer ∧ (s.write a v).joypad = s.joypad ∧
      (s.write a v).serial = s.serial ∧ (s.write a v).apu = s.apu ∧
      (s.write a v).ppu = { s.ppu with vram := (s.write a v).ppu.vram, oam := (s.write a v).ppu.oam } := by
  unfold State.write
  cases hr : regionOf a with
  | io => exact absurd hr h
  | _ => exact ⟨rfl, rfl, rfl, rfl, rfl, rfl⟩

/-! One device by a register's write. -/

/-- A request touches the bit of its own source alone (60_exceptions R322). -/
theorem Interrupts.requestIf_getLsbD_of_ne (i : Interrupts) (on : Bool) {j k : Source} (h : k ≠ j) :
    (i.requestIf on j).flags.getLsbD k.index = i.flags.getLsbD k.index := by
  have hindex : ¬ j.index = k.index := by
    revert h
    cases j <;> cases k <;> decide
  unfold Interrupts.requestIf setFlag
  cases on with
  | false => rfl
  | true => simp [hindex]

theorem State.write_timerPage (h1 : 0xFF04 ≤ a.toNat) (h2 : a.toNat ≤ 0xFF07) :
    s.write a v = { s with timer := (s.write a v).timer } := by
  have ha : a = 0xFF04 ∨ a = 0xFF05 ∨ a = 0xFF06 ∨ a = 0xFF07 := by bv_omega
  rcases ha with rfl | rfl | rfl | rfl
  · rw [s.write_register v rfl ioRegOf_div]; rfl
  · rw [s.write_register v rfl ioRegOf_tima]; rfl
  · rw [s.write_register v rfl ioRegOf_tma]; rfl
  · rw [s.write_register v rfl ioRegOf_tac]; rfl

/-- The APU's page with wave RAM changes the APU alone; its unmapped addresses change nothing. -/
theorem State.write_apuPage (h1 : 0xFF10 ≤ a.toNat) (h2 : a.toNat ≤ 0xFF3F) : s.write a v = { s with apu := (s.write a v).apu } := by
  rw [s.write_register v (regionOf_eq_io (by omega) (by omega)) rfl, ioRegOf]
  by_cases hwave : 0xFF30 ≤ a.toNat
  · rw [if_neg (by omega), if_pos (by omega)]
    rfl
  · rw [if_pos (by omega)]
    cases apuRegAt (a.toNat - 0xFF00) <;> rfl

/-- The PPU's registers without an interrupt of their own change the PPU alone. -/
theorem State.write_ppuPage (h1 : 0xFF42 ≤ a.toNat) (h2 : a.toNat ≤ 0xFF4B) (hlyc : a ≠ 0xFF45) :
    s.write a v = { s with ppu := (s.write a v).ppu } := by
  have ha : a = 0xFF42 ∨ a = 0xFF43 ∨ a = 0xFF44 ∨ a = 0xFF46 ∨ a = 0xFF47 ∨ a = 0xFF48 ∨ a = 0xFF49 ∨ a = 0xFF4A ∨ a = 0xFF4B := by
    bv_omega
  rcases ha with rfl | rfl | rfl | rfl | rfl | rfl | rfl | rfl | rfl
  · rw [s.write_register v rfl ioRegOf_scy]; rfl
  · rw [s.write_register v rfl ioRegOf_scx]; rfl
  · rw [s.write_register v rfl ioRegOf_ly]; rfl
  · rw [s.write_register v rfl ioRegOf_dma]; rfl
  · rw [s.write_register v rfl ioRegOf_bgp]; rfl
  · rw [s.write_register v rfl ioRegOf_obp0]; rfl
  · rw [s.write_register v rfl ioRegOf_obp1]; rfl
  · rw [s.write_register v rfl ioRegOf_wy]; rfl
  · rw [s.write_register v rfl ioRegOf_wx]; rfl

/-- LCDC, STAT and LYC: each store is followed by `stat_update()` (61_ppu R390). -/
theorem State.write_statRegister (h : a = 0xFF40 ∨ a = 0xFF41 ∨ a = 0xFF45) : ∃ p, s.write a v = s.withStatUpdate p := by
  rcases h with rfl | rfl | rfl
  · exact ⟨_, s.write_register v rfl ioRegOf_lcdc⟩
  · exact ⟨_, s.write_register v rfl ioRegOf_stat⟩
  · exact ⟨_, s.write_register v rfl ioRegOf_lyc⟩

end

/-- Settles O43: the memories and the devices one by one, then the registers of the I/O page. -/
theorem writeFrame : Obligations.WriteFrame := by
  intro s t a v ht
  subst ht
  refine ⟨s.write_cfg a v, s.write_cycles a v, ?cpu, ⟨s.write_cart a v, s.write_mbc_of_ne v, s.write_cartRam_of_ne v⟩,
    s.write_wram_of_ne v, s.write_hram_of_ne v, s.write_vram_of_ne v, s.write_oam_of_ne v, s.write_ie_of_ne v, s.write_devices_of_ne v,
    ?p1, ?serial, s.write_timerPage v, ?ifReg, s.write_apuPage v, ?stat, s.write_ppuPage v⟩
  case cpu =>
    by_cases ha : a = 0xFF00
    · exact (s.write_cpu a v).imp_right fun h => ⟨ha, h⟩
    · exact .inl (State.write_cpu_of_ne ha s v)
  case p1 =>
    rintro rfl
    rw [s.write_register v rfl ioRegOf_p1]
    exact ⟨rfl, fun k hk => s.ints.requestIf_getLsbD_of_ne _ hk⟩
  case serial =>
    rintro (rfl | rfl)
    · rw [s.write_register v rfl ioRegOf_sb]
      rfl
    · rw [s.write_register v rfl ioRegOf_sc]
      rfl
  case ifReg =>
    rintro rfl
    rw [s.write_register v rfl ioRegOf_ifReg]
    rfl
  case stat =>
    intro ha
    obtain ⟨p, hp⟩ := s.write_statRegister v ha
    rw [hp]
    exact ⟨rfl, fun k hk => s.ints.requestIf_getLsbD_of_ne _ hk⟩

end Sys2Proof.Machine
end

section
/-! SUPPORT and PROOF of O42. A write to a plain region and the byte of storage behind an address: the byte written, every other byte, and what
decides how an address is read. -/

namespace Sys2Proof.Machine

/-! What decides how an address is read. -/

theorem Region.plain_ne_rom {r : Region} (h : r.plain = true) : r ≠ .rom := fun e => by simp [e, Region.plain] at h

theorem Region.plain_ne_io {r : Region} (h : r.plain = true) : r ≠ .io := fun e => by simp [e, Region.plain] at h

/-- The I/O page is read from the devices; VRAM and OAM are no part of their registers. -/
theorem State.readIo_congr {s t : State} (hcfg : t.cfg = s.cfg) (hflags : t.ints.flags = s.ints.flags) (htimer : t.timer = s.timer)
    (hjoypad : t.joypad = s.joypad) (hserial : t.serial = s.serial) (hapu : t.apu = s.apu)
    (hppu : t.ppu = { s.ppu with vram := t.ppu.vram, oam := t.ppu.oam }) (r : IoReg) : t.readIo r = s.readIo r := by
  unfold State.readIo Interrupts.readIf
  rw [hcfg, hflags, htimer, hjoypad, hserial, hapu, hppu]
  cases r <;> rfl

section
variable (s : State) {a : Word} (v : Byte) (hp : (regionOf a).plain = true)
include hp

theorem State.write_cart_plain : (s.write a v).cart = { s.cart with ram := (s.write a v).cart.ram } :=
  (s.write_cart a v).trans (by rw [s.write_mbc_of_ne v (Region.plain_ne_rom hp)])

theorem State.write_ppu_plain : (s.write a v).ppu = { s.ppu with vram := (s.write a v).ppu.vram, oam := (s.write a v).ppu.oam } := by
  obtain ⟨-, -, -, -, -, hppu⟩ := s.write_devices_of_ne v (Region.plain_ne_io hp)
  exact hppu

theorem State.write_vramOpen : (s.write a v).ppu.vramOpen = s.ppu.vramOpen := by
  rw [s.write_ppu_plain v hp]
  rfl

theorem State.write_oamOpen : (s.write a v).ppu.oamOpen = s.ppu.oamOpen := by
  rw [s.write_ppu_plain v hp]
  rfl

theorem State.write_ramOpen : (s.write a v).cart.ramOpen = s.cart.ramOpen := by
  rw [s.write_cart_plain v hp]
  rfl

theorem State.write_ramOffset (k : Nat) : (s.write a v).cart.ramOffset k = s.cart.ramOffset k := by
  rw [s.write_cart_plain v hp]
  rfl

theorem State.write_readRom (k : Nat) : (s.write a v).cart.readRom k = s.cart.readRom k := by
  rw [s.write_cart_plain v hp]
  rfl

theorem State.write_readIo (r : IoReg) : (s.write a v).readIo r = s.readIo r := by
  obtain ⟨hflags, htimer, hjoypad, hserial, hapu, hppu⟩ := s.write_devices_of_ne v (Region.plain_ne_io hp)
  exact State.readIo_congr (s.write_cfg a v) hflags htimer hjoypad hserial hapu hppu r

/-- A plain write moves no storage. -/
theorem State.write_cellOf (b : Word) : (s.write a v).cellOf b = s.cellOf b := by
  unfold State.cellOf
  rw [s.write_ramOffset v hp]

end

/-! The bytes of each memory after a write elsewhere. -/

section
variable (s : State) {a : Word} (v : Byte) {k : Nat}

theorem State.read_write_vram (h : regionOf a = .vram → k ≠ a.toNat - 0x8000) : (s.write a v).ppu.vram.read k = s.ppu.vram.read k := by
  by_cases hr : regionOf a = .vram
  · by_cases ho : s.ppu.vramOpen = true
    · rw [(s.vram_open v hr ho).2]
      exact Memory.read_write_other _ v (h hr)
    · rw [(s.vram_closed v hr ho).2]
  · rw [s.write_vram_of_ne v hr]

theorem State.read_write_oam (hdma : a ≠ 0xFF46) (h : regionOf a = .oam → k ≠ a.toNat - 0xFE00) :
    (s.write a v).ppu.oam.read k = s.ppu.oam.read k := by
  by_cases hr : regionOf a = .oam
  · by_cases ho : s.ppu.oamOpen = true
    · rw [(s.oam_open v hr ho).2]
      exact Memory.read_write_other _ v (h hr)
    · rw [(s.oam_closed v hr ho).2]
  · rw [s.write_oam_of_ne v hr hdma]

theorem State.read_write_cartRam (h : regionOf a = .cartRam → k ≠ s.cart.ramOffset a.toNat) :
    (s.write a v).cart.ram.read k = s.cart.ram.read k := by
  by_cases hr : regionOf a = .cartRam
  · by_cases ho : s.cart.ramOpen = true
    · rw [(s.cartRam_open v hr ho).2]
      exact Memory.read_write_other _ v (h hr)
    · rw [(s.cartRam_closed v hr ho).2]
  · rw [s.write_cartRam_of_ne v hr]

theorem State.read_write_wram (h : s.cellOf a ≠ (.wram, k)) : (s.write a v).wram.read k = s.wram.read k := by
  unfold State.cellOf at h
  by_cases hw : regionOf a = .wram
  · rw [s.write_wram v hw]
    exact Memory.read_write_other _ v fun e => h (by rw [hw, e])
  · by_cases he : regionOf a = .echo
    · rw [s.write_echo v he]
      exact Memory.read_write_other _ v fun e => h (by rw [he, e])
    · rw [s.write_wram_of_ne v hw he]

theorem State.read_write_hram (h : regionOf a = .hram → k ≠ a.toNat - 0xFF80) : (s.write a v).hram.read k = s.hram.read k := by
  by_cases hr : regionOf a = .hram
  · rw [s.write_hram v hr]
    exact Memory.read_write_other _ v (h hr)
  · rw [s.write_hram_of_ne v hr]

end

/-- A plain write changes no byte but those whose storage it writes. -/
theorem State.read_write_other (s : State) {a b : Word} (v : Byte) (hp : (regionOf a).plain = true) (hcell : s.cellOf b ≠ s.cellOf a) :
    (s.write a v).read b = s.read b := by
  have hcfg := s.write_cfg a v
  have hdma : a ≠ 0xFF46 := fun e => by simp [e, regionOf, Region.plain] at hp
  have hne : b.toNat ≠ a.toNat := fun e => hcell (by rw [BitVec.eq_of_toNat_eq e])
  unfold State.cellOf at hcell
  cases hb : regionOf b with
  | rom => rw [State.read_rom _ hb, State.read_rom _ hb, s.write_readRom v hp]
  | vram =>
    have hk : regionOf a = .vram → b.toNat - 0x8000 ≠ a.toNat - 0x8000 := fun ha => by
      have := regionOf_vram ha
      have := regionOf_vram hb
      omega
    rw [State.read_vram _ hb, State.read_vram _ hb, Ppu.readVram, Ppu.readVram, s.write_vramOpen v hp, s.read_write_vram v hk, hcfg]
  | cartRam =>
    have hk : regionOf a = .cartRam → s.cart.ramOffset b.toNat ≠ s.cart.ramOffset a.toNat := fun ha e =>
      hcell (by rw [ha, hb, e])
    rw [State.read_cartRam _ hb, State.read_cartRam _ hb, Cartridge.readRam, Cartridge.readRam, s.write_ramOpen v hp,
      s.write_ramOffset v hp, s.read_write_cartRam v hk, hcfg]
  | wram =>
    rw [hb] at hcell
    rw [State.read_wram _ hb, State.read_wram _ hb, s.read_write_wram v hcell.symm]
  | echo =>
    rw [hb] at hcell
    rw [State.read_echo _ hb, State.read_echo _ hb, s.read_write_wram v hcell.symm]
  | oam =>
    have hk : regionOf a = .oam → b.toNat - 0xFE00 ≠ a.toNat - 0xFE00 := fun ha => by
      have := regionOf_oam ha
      have := regionOf_oam hb
      omega
    rw [State.read_oam _ hb, State.read_oam _ hb, Ppu.readOam, Ppu.readOam, s.write_oamOpen v hp, s.read_write_oam v hdma hk, hcfg]
  | unusable => rw [State.read_unusable _ hb, State.read_unusable _ hb, hcfg]
  | io => rw [State.read_register _ hb rfl, State.read_register _ hb rfl, s.write_readIo v hp]
  | hram =>
    have hk : regionOf a = .hram → b.toNat - 0xFF80 ≠ a.toNat - 0xFF80 := fun ha => by
      have := regionOf_hram ha
      have := regionOf_hram hb
      omega
    rw [State.read_hram _ hb, State.read_hram _ hb, s.read_write_hram v hk]
  | ie =>
    have ha : regionOf a ≠ .ie := fun ha => hne ((regionOf_ie hb).trans (regionOf_ie ha).symm)
    rw [State.read_ie _ hb, State.read_ie _ hb, s.write_ie_of_ne v ha]

/-- Where a plain region is open, the address written reads the value written. -/
theorem State.read_write_same (s : State) {a : Word} (v : Byte) (hp : (regionOf a).plain = true) (hu : regionOf a ≠ .unusable)
    (hvram : regionOf a = .vram → s.ppu.vramOpen = true) (hoam : regionOf a = .oam → s.ppu.oamOpen = true)
    (hram : regionOf a = .cartRam → s.cart.ramOpen = true) : (s.write a v).read a = v := by
  cases h : regionOf a with
  | rom => exact absurd h (Region.plain_ne_rom hp)
  | io => exact absurd h (Region.plain_ne_io hp)
  | unusable => exact absurd h hu
  | vram =>
    rw [((s.write a v).vram_open v h ((s.write_vramOpen v hp).trans (hvram h))).1, (s.vram_open v h (hvram h)).2]
    exact Memory.read_write_same _ _ v
  | oam =>
    rw [((s.write a v).oam_open v h ((s.write_oamOpen v hp).trans (hoam h))).1, (s.oam_open v h (hoam h)).2]
    exact Memory.read_write_same _ _ v
  | cartRam =>
    rw [((s.write a v).cartRam_open v h ((s.write_ramOpen v hp).trans (hram h))).1, s.write_ramOffset v hp, (s.cartRam_open v h (hram h)).2]
    exact Memory.read_write_same _ _ v
  | wram =>
    rw [State.read_wram _ h, s.write_wram v h]
    exact Memory.read_write_same _ _ v
  | echo =>
    rw [State.read_echo _ h, s.write_echo v h]
    exact Memory.read_write_same _ _ v
  | hram =>
    rw [State.read_hram _ h, s.write_hram v h]
    exact Memory.read_write_same _ _ v
  | ie => rw [State.read_ie _ h, s.write_ie v h]

/-- Settles O42: the byte of storage written, and every other byte. -/
theorem readAfterWrite : Obligations.ReadAfterWrite :=
  fun s _ v hp => ⟨fun _ hcell => s.read_write_other v hp hcell, s.read_write_same v hp⟩

end Sys2Proof.Machine
end

section
/-! SUPPORT and PROOF of O36. Every instruction writes to the bus at its stored addresses only, and what such an instruction leaves of memory. -/

namespace Sys2Proof.Machine

/-! What an instruction can do, with the addresses it writes to. -/

/-- A state reached from `s` by CPU updates, M-cycles and bus writes to the addresses `ds`. -/
inductive State.StoresWithin (ds : List Word) (s : State) : State → Prop
  | start : State.StoresWithin ds s s
  | setCpu {t : State} (h : State.StoresWithin ds s t) (c : Cpu) : State.StoresWithin ds s (t.setCpu c)
  | mcycle {t : State} (h : State.StoresWithin ds s t) : State.StoresWithin ds s t.mcycle
  | write {t : State} (h : State.StoresWithin ds s t) {a : Word} (ha : a ∈ ds) (v : Byte) : State.StoresWithin ds s (t.write a v)

namespace State.StoresWithin

variable {ds : List Word} {s t : State}

theorem store (h : StoresWithin ds s t) {a : Word} (ha : a ∈ ds) (v : Byte) : StoresWithin ds s (t.store a v) := h.mcycle.write ha v

theorem push16 (h : StoresWithin ds s t) (hhi : t.cpu.sp - 1 ∈ ds) (hlo : t.cpu.sp - 2 ∈ ds) (v : Word) :
    StoresWithin ds s (t.push16 v) := by
  rw [State.push16_eq]
  exact ((h.store hhi _).store hlo _).setCpu _

theorem pop16 (h : StoresWithin ds s t) : StoresWithin ds s t.pop16.2 := ((h.mcycle.setCpu _).mcycle).setCpu _

theorem ret (h : StoresWithin ds s t) : StoresWithin ds s t.ret := h.pop16.mcycle.setCpu _

theorem readOperand (h : StoresWithin ds s t) (o : Operand8) : StoresWithin ds s (t.readOperand o).2 := by
  cases o with
  | reg r => exact h
  | atHL => exact h.mcycle

theorem jumpIf (h : StoresWithin ds s t) (cc : Cond) (a : Word) : StoresWithin ds s (t.jumpIf cc a) := by
  unfold State.jumpIf
  split
  · exact h.mcycle.setCpu _
  · exact h

theorem retIf (h : StoresWithin ds s t) (cc : Cond) : StoresWithin ds s (t.retIf cc) := by
  unfold State.retIf
  split
  · exact h.mcycle.ret
  · exact h.mcycle

theorem halt (h : StoresWithin ds s t) : StoresWithin ds s t.halt := by
  rw [State.halt_eq]
  exact h.setCpu _

theorem modify (o : Operand8) (g : Byte → Byte → Flagged) : StoresWithin (Footprint.ofOperand s.cpu.hl o).stores s (s.modify o g) := by
  cases o with
  | reg r => exact (start.setCpu _).setCpu _
  | atHL =>
    rw [State.modify_atHL]
    exact (start.mcycle.mcycle.write (List.mem_singleton_self s.cpu.hl) _).setCpu _

theorem modifyBits (o : Operand8) (g : Byte → Byte) : StoresWithin (Footprint.ofOperand s.cpu.hl o).stores s (s.modifyBits o g) := by
  have h := (start (ds := (Footprint.ofOperand s.cpu.hl o).stores) (s := s)).readOperand o
  cases o with
  | reg r => exact h.setCpu _
  | atHL => exact h.store (by simp [Footprint.ofOperand, State.readOperand]) _

theorem call (a : Word) : StoresWithin s.pushed s (s.call a) :=
  (start.mcycle.push16 (by simp [State.pushed]) (by simp [State.pushed]) _).setCpu _

theorem callIf (cc : Cond) (a : Word) : StoresWithin (if condHolds cc s.cpu.f then s.pushed else []) s (s.callIf cc a) := by
  unfold State.callIf
  split
  · exact call a
  · exact start

theorem pushPair (p : StackPair) : StoresWithin s.pushed s (s.pushPair p) :=
  start.mcycle.push16 (by simp [State.pushed]) (by simp [State.pushed]) _

theorem storeOne (a : Word) (v : Byte) : StoresWithin [a] s (s.store a v) := start.store (List.mem_singleton_self a) v

theorem storeSp (nn : Word) : StoresWithin [nn, nn + 1] s (s.storeSp nn) := (start.store (by simp) _).store (by simp) _

end State.StoresWithin

/-- The stored addresses of an instruction whose footprint is known. -/
theorem footprint_stores {i : Instr} {s : State} {fp : Footprint} (h : footprint i s = fp) : storedAt i s = fp.stores :=
  congrArg Footprint.stores h

/-- Every instruction writes to the bus at its stored addresses only. -/
theorem exec_storesWithin (i : Instr) {s t : State} (hwf : i.wellFormed = true) (hx : exec i s = .next t) :
    State.StoresWithin (storedAt i s) s t := by
  have key : ∀ {u : State} {ds : List Word}, exec i s = .next u → storedAt i s = ds → State.StoresWithin ds s u →
      State.StoresWithin (storedAt i s) s t := fun hu hds h => by obtain rfl := exec_next_unique hu hx; rwa [hds]
  have undefined : ∀ {op : Byte}, s.undefinedOpcode op = .next t → State.StoresWithin (storedAt i s) s t := fun hu => by
    rw [State.undefinedOpcode_next hu]
    exact .start
  have h : State.StoresWithin [] s s := .start
  induction i using Instr.family_cases with
  | ldRegReg dst src => exact key (exec_family_ldRegReg dst src s) (by cases dst <;> cases src <;> rfl) (h.setCpu _)
  | ldRegImm r n => exact key (exec_family_ldRegImm r n s) (by cases r <;> rfl) (h.setCpu _)
  | ldRegAtHL r => exact key (exec_family_ldRegAtHL r s) (by cases r <;> rfl) (h.mcycle.setCpu _)
  | ldAtHLReg r => exact key (exec_family_ldAtHLReg r s) (by cases r <;> rfl) (.storeOne _ _)
  | alu op src =>
    exact key (exec_family_alu op src s) ((footprint_stores (footprint_alu op src s)).trans (by cases op <;> rfl))
      ((h.readOperand src).setCpu _)
  | aluImm op n => exact key (exec_family_aluImm op n s) (by cases op <;> rfl) (h.setCpu _)
  | incOperand o => exact key (exec_family_incOperand o s) (footprint_stores (footprint_incOperand o s)) (.modify o _)
  | decOperand o => exact key (exec_family_decOperand o s) (footprint_stores (footprint_decOperand o s)) (.modify o _)
  | ldPairImm p nn => exact key (exec_family_ldPairImm p nn s) (by cases p <;> rfl) (h.setCpu _)
  | addHL p => exact key (exec_family_addHL p s) (by cases p <;> rfl) (h.mcycle.setCpu _)
  | incPair p => exact key (exec_family_incPair p s) (by cases p <;> rfl) (h.mcycle.setCpu _)
  | decPair p => exact key (exec_family_decPair p s) (by cases p <;> rfl) (h.mcycle.setCpu _)
  | push p => exact key (exec_family_push p s) (by cases p <;> rfl) (.pushPair p)
  | pop p => exact key (exec_family_pop p s) (by cases p <;> rfl) (h.pop16.setCpu _)
  | jpCond cc nn => exact key (exec_family_jpCond cc nn s) (by cases cc <;> rfl) (h.jumpIf cc _)
  | jrCond cc e => exact key (exec_family_jrCond cc e s) (by cases cc <;> rfl) (h.jumpIf cc _)
  | callCond cc nn => exact key (exec_family_callCond cc nn s) (footprint_stores (footprint_callCond cc nn s)) (.callIf cc nn)
  | retCond cc => exact key (exec_family_retCond cc s) (by cases cc <;> rfl) (h.retIf cc)
  | rst k => exact key (exec_family_rst k s) (footprint_stores (footprint_rst k s)) (.call _)
  | shift op o => exact key (exec_family_shift op o s) (footprint_stores (footprint_shift op o s)) (.modify o _)
  | bit b o => exact key (exec_family_bit b o s) (footprint_stores (footprint_bit b o s)) ((h.readOperand o).setCpu _)
  | res b o => exact key (exec_family_res b o s) (footprint_stores (footprint_res b o s)) (.modifyBits o _)
  | set b o => exact key (exec_family_set b o s) (footprint_stores (footprint_set b o s)) (.modifyBits o _)
  | h_nop => exact key rfl rfl h
  | h_ld_atBC_a | h_ld_atDE_a | h_ld_atNN_a nn | h_ld_atHL_n n => exact key rfl rfl (.storeOne _ _)
  | h_ldh_atN_a n => exact key rfl (by rw [ioPage_eq_add]; rfl) (.storeOne (ioPage n) _)
  | h_ldh_atC_a => exact key rfl (by rw [ioPage_eq_add]; rfl) (.storeOne (ioPage s.cpu.c) _)
  | h_ld_atHLinc_a | h_ld_atHLdec_a => exact key rfl rfl ((State.StoresWithin.storeOne _ _).setCpu _)
  | h_ld_atNN_sp nn => exact key rfl rfl (.storeSp nn)
  | h_ld_a_atBC | h_ld_a_atDE | h_ld_a_atNN nn | h_ldh_a_atN n | h_ldh_a_atC | h_ld_sp_hl | h_ld_hl_sp_e e | h_jp_nn nn | h_jr_e e =>
    exact key rfl rfl (h.mcycle.setCpu _)
  | h_ld_a_atHLinc | h_ld_a_atHLdec => exact key rfl rfl ((h.mcycle.setCpu _).setCpu _)
  | h_add_sp_e e => exact key rfl rfl (h.mcycle.mcycle.setCpu _)
  | h_rlca | h_rrca | h_rla | h_rra | h_daa | h_cpl | h_scf | h_ccf | h_jp_hl | h_di | h_ei => exact key rfl rfl (h.setCpu _)
  | h_call_nn nn => exact key rfl rfl (.call nn)
  | h_ret => exact key rfl rfl h.ret
  | h_reti => exact key rfl rfl (h.ret.setCpu _)
  | h_halt => exact key rfl rfl h.halt
  | h_stop x =>
    rw [exec_stop_next hx]
    exact h.setCpu _
  | h_prefixCb => exact absurd hwf (by decide)
  | h_undef_d3 | h_undef_db | h_undef_dd | h_undef_e3 | h_undef_e4 | h_undef_eb | h_undef_ec | h_undef_ed | h_undef_f4 | h_undef_fc |
    h_undef_fd => exact undefined hx

/-- Writes to plain regions under `ACCESS_TIMING = instruction` leave every byte with other storage as it was, and move no storage. -/
theorem State.StoresWithin.read_eq {ds : List Word} {s t : State} (h : State.StoresWithin ds s t) (ht : s.cfg.accessTiming = .instruction)
    (hplain : ∀ d ∈ ds, (regionOf d).plain = true) {a : Word} (ha : ∀ d ∈ ds, s.cellOf a ≠ s.cellOf d) :
    t.read a = s.read a ∧ t.cellOf = s.cellOf ∧ t.cfg = s.cfg := by
  induction h with
  | start => exact ⟨rfl, rfl, rfl⟩
  | setCpu _ c ih => exact ⟨(State.read_setCpu _ c a).trans ih.1, ih.2⟩
  | @mcycle t _ ih =>
    obtain ⟨hread, hcell, hcfg⟩ := ih
    have htiming : t.cfg.accessTiming = .instruction := hcfg ▸ ht
    refine ⟨(t.read_mcycle_instruction htiming a).trans hread, ?_, t.mcycle_cfg.trans hcfg⟩
    rw [t.mcycle_instruction htiming]
    exact hcell
  | @write t _ d hd v ih =>
    obtain ⟨hread, hcell, hcfg⟩ := ih
    refine ⟨?_, (funext (t.write_cellOf v (hplain d hd))).trans hcell, (t.write_cfg d v).trans hcfg⟩
    exact (t.read_write_other v (hplain d hd) (by rw [hcell]; exact ha d hd)).trans hread

/-- Settles O36: the instruction writes at its stored addresses only, each in a plain region. -/
theorem frameOfStores : Obligations.FrameOfStores := by
  intro i s t hwf hx htiming hplain a ha
  exact ((exec_storesWithin i hwf hx).read_eq htiming hplain ha).1

end Sys2Proof.Machine
end

section
/-! SUPPORT and PROOF of O60. The cartridge of an image, read off its header, and its ROM and RAM as the bytes they were made from. -/

namespace Sys2Proof.Machine

/-! Which images are rejected. -/

theorem declaredRomSize_eq (code : Nat) : declaredRomSize code = 32768 * 2 ^ code := Nat.shiftLeft_eq 32768 code

theorem validImage_iff (rom : List Byte) :
    validImage rom = true ↔ 0x150 ≤ rom.length ∧ (headerByte rom 0x148).toNat ≤ 8 ∧ (headerByte rom 0x149).toNat ≤ 5 ∧
      32768 * 2 ^ (headerByte rom 0x148).toNat ≤ rom.length := by
  simp only [validImage, Bool.and_eq_true, decide_eq_true_eq, declaredRomSize_eq, and_assoc]

theorem loadCartridge_error_iff (cfg : Config) (rom : List Byte) (save : Option (List Byte)) :
    (∃ e, loadCartridge cfg rom save = .error e) ↔ ¬ validImage rom = true := by
  unfold loadCartridge
  split
  · next h => simp [h]
  · next h => exact ⟨fun _ => h, fun _ => ⟨.invalidRom, rfl⟩⟩

theorem validImage_of_load {cfg : Config} {rom : List Byte} {save : Option (List Byte)} {t : State}
    (h : loadCartridge cfg rom save = .ok t) : validImage rom = true := by
  by_contra hv
  obtain ⟨e, he⟩ := (loadCartridge_error_iff cfg rom save).mpr hv
  exact nomatch he.symm.trans h

/-! What an accepted image becomes. -/

/-- The image below its declared size is the file's bytes (R102). -/
theorem imageCartridge_rom_lt (rom : List Byte) (save : Option (List Byte)) {k : Nat} (hk : k < (imageCartridge rom save).romSize) :
    (imageCartridge rom save).rom.read k = rom.getD k 0 := by
  refine (Memory.read_ofBytes_zero _ k).trans ?_
  have htake : (rom.take (imageCartridge rom save).romSize)[k]? = rom[k]? := List.getElem?_take_of_lt hk
  rw [List.getD_eq_getElem?_getD, List.getD_eq_getElem?_getD]
  exact congrArg (Option.getD · 0) htake

/-- Bytes beyond the declared size are ignored (R102). -/
theorem imageCartridge_rom_ge (rom : List Byte) (save : Option (List Byte)) {k : Nat} (hk : (imageCartridge rom save).romSize ≤ k) :
    (imageCartridge rom save).rom.read k = 0 :=
  (Memory.read_ofBytes_zero _ k).trans (List.getD_eq_default _ _ ((List.length_take_le _ rom).trans hk))

theorem imageKind_eq_mbc1 {rom : List Byte} (h : (headerByte rom 0x147).toNat ∈ [1, 2, 3]) : imageKind rom = .mbc1 :=
  if_pos (by simp at h; omega)

theorem imageKind_eq_none {rom : List Byte} (h : (headerByte rom 0x147).toNat ∉ [1, 2, 3]) : imageKind rom = .none :=
  if_neg (by simp at h; omega)

theorem imageRamSize_eq_declared {rom : List Byte} (h : (headerByte rom 0x147).toNat ∈ [2, 3]) :
    imageRamSize rom = declaredRamSize (headerByte rom 0x149).toNat := if_pos (by simpa using h)

theorem imageRamSize_eq_zero {rom : List Byte} (h : (headerByte rom 0x147).toNat ∉ [2, 3]) : imageRamSize rom = 0 :=
  if_neg (by simpa using h)

/-- The declared RAM size of a code in range, as R102 lists it. -/
theorem declaredRamSize_eq (code : Nat) :
    code ≤ 5 → declaredRamSize code = (match code with | 0 => 0 | 1 => 2048 | 2 => 8192 | 3 => 32768 | 4 => 131072 | _ => 65536) := by
  intro h
  interval_cases code <;> rfl

/-- A save blob of the right length is the RAM (R102). -/
theorem initialRam_blob {size : Nat} {blob : List Byte} (h : blob.length = size) (k : Nat) :
    (initialRam size (some blob)).read k = blob.getD k 0 := by
  rw [initialRam, if_pos h, Memory.read_ofBytes_zero]

/-- Without a save blob of the right length the RAM is zeros (R102, 10_state R42). -/
theorem initialRam_zeros {size : Nat} {save : Option (List Byte)} (h : ∀ blob, save = some blob → blob.length ≠ size) :
    initialRam size save = [] := by
  cases save with
  | none => rfl
  | some blob => exact if_neg (h blob rfl)

/-- `save_ram()` of a machine just loaded: a battery cartridge is type 0x03 (R110). -/
theorem saveRam_powerOn (cfg : Config) (rom : List Byte) (save : Option (List Byte)) {c : Cartridge} (hc : c = imageCartridge rom save) :
    (State.powerOn cfg c).saveRam =
      if (headerByte rom 0x147).toNat = 3 ∧ c.ramSize ≠ 0 then some ((List.range c.ramSize).map c.ram.read) else none := by
  have hbattery : c.battery = true ↔ (headerByte rom 0x147).toNat = 3 := by
    subst hc
    simp [imageCartridge, ← BitVec.toNat_inj]
  have hguard : (c.battery && decide (0 < c.ramSize)) = true ↔ (headerByte rom 0x147).toNat = 3 ∧ c.ramSize ≠ 0 := by
    simp [hbattery, Nat.pos_iff_ne_zero]
  show (if (c.battery && decide (0 < c.ramSize)) = true then some (c.ram.toBytes c.ramSize) else none) = _
  simp only [hguard, Memory.toBytes]

/-- Settles O60: an image is accepted when it is valid, and becomes the power-on state of its cartridge. -/
theorem Cartridge.loadCartridge : Obligations.LoadCartridge := by
  rintro cfg rom save _ _ rfl rfl
  refine ⟨?rejected, fun t ht => ?accepted⟩
  case rejected =>
    rw [loadCartridge_error_iff, validImage_iff]
    simp only [headerByte]
    omega
  case accepted =>
    obtain ⟨-, -, hram, -⟩ := (validImage_iff rom).mp (validImage_of_load ht)
    obtain rfl := loadCartridge_eq ht
    refine ⟨rfl, declaredRomSize_eq _, fun k => imageCartridge_rom_lt rom save, fun k => imageCartridge_rom_ge rom save, fun h => ?type2or3,
      fun h => ?type1, fun h => ?other, fun blob hblob hlen k _ => ?blob, fun hlen k => ?zeros, saveRam_powerOn cfg rom save rfl, rfl⟩
    case type2or3 =>
      exact ⟨imageKind_eq_mbc1 (List.mem_cons_of_mem 1 h), (imageRamSize_eq_declared h).trans (declaredRamSize_eq _ hram)⟩
    case type1 =>
      have h1 : (headerByte rom 0x147).toNat = 1 := h
      exact ⟨imageKind_eq_mbc1 (by simp [h1]), imageRamSize_eq_zero (by simp [h1])⟩
    case other => exact ⟨imageKind_eq_none h, imageRamSize_eq_zero fun h' => h (List.mem_cons_of_mem 1 h')⟩
    case blob =>
      subst hblob
      exact initialRam_blob hlen k
    case zeros => exact congrArg (Memory.read · k) (initialRam_zeros hlen)

end Sys2Proof.Machine
end

section
/-! SUPPORT and PROOFS of O1, O3 and O4. What each format of the base table makes of its operand bytes, as encoded and as decoded. -/

namespace Sys2Proof

open Machine (bits3_cases lengthByOpcode wordOf_hiByte_loByte hiByte_wordOf loByte_wordOf)

/-! The instructions of a format are encoded as the opcode and their operand bytes. -/

/-- What an entry makes of the operand byte `n` or the operand word `nn` is encoded as the opcode `op` and that operand, low byte first. -/
def Entry.Encodes (e : Entry) (op n : Byte) (nn : Word) : Prop :=
  match e with
  | .one i => encode i = [op]
  | .two f => encode (f n) = [op, n]
  | .stop => encode (.stop n) = [op, n]
  | .three f => encode (f nn) = [op, loByte nn, hiByte nn]
  | .prefixCb => encode .prefixCb = [op]

/-- The 256 opcodes, by their fields `x`, `y` and `z` (30_encoding R121, R132). -/
theorem lookup_encodes (n : Byte) (nn : Word) (op : Byte) : (lookup op).Encodes op n nn := by
  revert op
  refine Byte.cases_fields (bits2_cases ?_ ?_ ?_ ?_) <;> refine bits3_cases ?_ ?_ ?_ ?_ ?_ ?_ ?_ ?_ <;>
    refine bits3_cases ?_ ?_ ?_ ?_ ?_ ?_ ?_ ?_ <;> exact rfl

section
variable {op : Byte}

theorem encodes_of_lookup {e : Entry} (h : lookup op = e) (n : Byte) (nn : Word) : e.Encodes op n nn := h ▸ lookup_encodes n nn op

theorem encode_of_lookup_one {i : Instr} (h : lookup op = .one i) : encode i = [op] := encodes_of_lookup h 0 0

theorem encode_of_lookup_two {f : Byte → Instr} (h : lookup op = .two f) (n : Byte) : encode (f n) = [op, n] := encodes_of_lookup h n 0

theorem encode_of_lookup_three {f : Word → Instr} (h : lookup op = .three f) (nn : Word) :
    encode (f nn) = [op, loByte nn, hiByte nn] := encodes_of_lookup h 0 nn

theorem lookup_eq_stop_iff : lookup op = .stop ↔ op = 0x10 where
  mp h := (List.head_eq_of_cons_eq (show [0x10, 0] = [op, 0] from encodes_of_lookup h 0 0)).symm
  mpr h := h ▸ rfl

theorem ne_0x10_of_lookup {e : Entry} (he : lookup op = e) (h : e ≠ .stop) : op ≠ 0x10 :=
  fun hop => h (he.symm.trans (lookup_eq_stop_iff.mpr hop))

theorem lookup_eq_prefixCb_iff : lookup op = .prefixCb ↔ op = 0xCB where
  mp h := (List.head_eq_of_cons_eq (show [0xCB] = [op] from encodes_of_lookup h 0 0)).symm
  mpr h := h ▸ rfl

end

/-! Decoding, one case per format. -/

/-- The bytes `op :: tail` begin with the instruction `i`, and `rest` follows it (30_encoding R125, R126; a lone 0xCB is log entry 5). -/
inductive Decodes (op : Byte) : List Byte → Instr → List Byte → Prop
  | one {i : Instr} (rest : List Byte) : lookup op = .one i → Decodes op rest i rest
  | two {f : Byte → Instr} (n : Byte) (rest : List Byte) : lookup op = .two f → Decodes op (n :: rest) (f n) rest
  | stop (x : Byte) (rest : List Byte) : lookup op = .stop → Decodes op (x :: rest) (.stop x) rest
  | three {f : Word → Instr} (lo hi : Byte) (rest : List Byte) :
    lookup op = .three f → Decodes op (lo :: hi :: rest) (f (wordOf hi lo)) rest
  | prefixed (op2 : Byte) (rest : List Byte) : lookup op = .prefixCb → Decodes op (op2 :: rest) (lookupCb op2) rest
  | lonePrefix : lookup op = .prefixCb → Decodes op [] .prefixCb []

section
variable {op : Byte} {tail rest : List Byte} {i : Instr}

theorem decode_of_decodes (h : Decodes op tail i rest) : decode (op :: tail) = .ok (i, rest) := by
  cases h with
  | one _ he | two _ _ he | stop _ _ he | three _ _ _ he | prefixed _ _ he | lonePrefix he => simp only [decode, he]

theorem decodes_of_decode (h : decode (op :: tail) = .ok (i, rest)) : Decodes op tail i rest := by
  simp only [decode] at h
  split at h <;> cases h
  next he => exact .one _ he
  next he => exact .two _ _ he
  next he => exact .stop _ _ he
  next he => exact .three _ _ _ he
  next he => exact .prefixed _ _ he
  next he => exact .lonePrefix he

theorem Decodes.bytes_eq (h : Decodes op tail i rest) : op :: tail = encode i ++ rest := by
  cases h with
  | one _ he => rw [encode_of_lookup_one he, List.singleton_append]
  | two n _ he => rw [encode_of_lookup_two he]; rfl
  | stop x _ he => rw [lookup_eq_stop_iff.mp he]; rfl
  | three lo hi _ he => rw [encode_of_lookup_three he, loByte_wordOf, hiByte_wordOf]; rfl
  | prefixed op2 _ he => rw [encode_lookupCb, lookup_eq_prefixCb_iff.mp he]; rfl
  | lonePrefix he => rw [lookup_eq_prefixCb_iff.mp he]; rfl

theorem Instr.wellFormed_of_encode (h : encode i ≠ [0xCB]) : i.wellFormed = true := decide_eq_true fun hi => h (hi ▸ rfl)

/-- Only 0xCB with no byte after it is decoded to the row that is no instruction. -/
theorem Decodes.wellFormed (h : Decodes op tail i rest) (hprefix : op = 0xCB → tail ≠ []) : i.wellFormed = true := by
  cases h with
  | one _ he =>
    refine Instr.wellFormed_of_encode fun henc => ?_
    have hop : op = 0xCB := List.head_eq_of_cons_eq ((encode_of_lookup_one he).symm.trans henc)
    cases (lookup_eq_prefixCb_iff.mpr hop).symm.trans he
  | two n _ he => exact Instr.wellFormed_of_encode (by simp [encode_of_lookup_two he])
  | stop x _ he => rfl
  | three lo hi _ he => exact Instr.wellFormed_of_encode (by simp [encode_of_lookup_three he])
  | prefixed op2 _ he => exact Instr.wellFormed_of_encode (by simp [encode_lookupCb])
  | lonePrefix he => exact absurd rfl (hprefix (lookup_eq_prefixCb_iff.mp he))

end

theorem decode_wordBytes {op : Byte} {f : Word → Instr} (he : lookup op = .three f) (nn : Word) (rest : List Byte) :
    decode (op :: loByte nn :: hiByte nn :: rest) = .ok (f nn, rest) := by
  rw [decode_of_decodes (.three _ _ _ he), wordOf_hiByte_loByte]

/-- Every instruction's bytes, whatever follows them, decode to it. -/
theorem decode_encode {i : Instr} (hwf : i.wellFormed = true) (rest : List Byte) : decode (encode i ++ rest) = .ok (i, rest) := by
  cases i with
  | ld_bc_nn nn | ld_de_nn nn | ld_hl_nn nn | ld_sp_nn nn | ld_atNN_sp nn | ld_atNN_a nn | ld_a_atNN nn => exact decode_wordBytes rfl nn rest
  | jp_nn nn | jp_nz_nn nn | jp_z_nn nn | jp_nc_nn nn | jp_c_nn nn => exact decode_wordBytes rfl nn rest
  | call_nn nn | call_nz_nn nn | call_z_nn nn | call_nc_nn nn | call_c_nn nn => exact decode_wordBytes rfl nn rest
  | prefixCb => exact absurd hwf (by decide)
  | _ => rfl

theorem bytes_eq_of_decode {bytes rest : List Byte} {i : Instr} (h : decode bytes = .ok (i, rest)) : bytes = encode i ++ rest := by
  cases bytes with
  | nil => cases h
  | cons op tail => exact (decodes_of_decode h).bytes_eq

/-- Settles O1: the encoding of each row decodes to it; and each format that decodes has the bytes it is encoded as. -/
theorem decodeAndEncodeAgree : Obligations.DecodeAndEncodeAgree :=
  ⟨fun _ rest hwf => decode_encode hwf rest, fun _ _ _ _ h => bytes_eq_of_decode h⟩

/-! The length by the first byte (R126). -/

theorem lengthByOpcode_eq_instrLength (op : Byte) : lengthByOpcode op = instrLength op := by revert op; decide

theorem exists_decodes {op : Byte} {rest : List Byte} (h : instrLength op ≤ rest.length + 1) :
    ∃ i, Decodes op rest i (rest.drop (instrLength op - 1)) := by
  unfold instrLength at h ⊢
  cases he : lookup op with
  | one i => exact ⟨i, .one _ he⟩
  | two f =>
    obtain _ | ⟨n, rest⟩ := rest
    · simp [he] at h
    · exact ⟨f n, .two _ _ he⟩
  | stop =>
    obtain _ | ⟨x, rest⟩ := rest
    · simp [he] at h
    · exact ⟨.stop x, .stop _ _ he⟩
  | three f =>
    obtain _ | ⟨lo, _ | ⟨hi, rest⟩⟩ := rest
    · simp [he] at h
    · simp [he] at h
    · exact ⟨f (wordOf hi lo), .three _ _ _ he⟩
  | prefixCb =>
    obtain _ | ⟨op2, rest⟩ := rest
    · simp [he] at h
    · exact ⟨lookupCb op2, .prefixed _ _ he⟩

/-- Bytes that end before the listed length lack an operand byte. -/
theorem decode_of_lt_length {op : Byte} {rest : List Byte} (h : rest.length + 1 < instrLength op) (hop : op ≠ 0xCB) :
    decode (op :: rest) = .error (.missingOperand op) := by
  unfold instrLength at h
  cases he : lookup op with
  | one i => simp [he] at h
  | two _ | stop =>
    obtain rfl : rest = [] := by simpa [he] using h
    simp only [decode, he]
  | three f =>
    obtain _ | ⟨lo, _ | ⟨hi, rest⟩⟩ := rest
    · simp only [decode, he]
    · simp only [decode, he]
    · simp only [he, List.length_cons] at h
      omega
  | prefixCb => exact absurd (lookup_eq_prefixCb_iff.mp he) hop

/-- Settles O3: the listed lengths are those of the formats. -/
theorem decodeTakesTheListedLength : Obligations.DecodeTakesTheListedLength := by
  refine ⟨fun op rest h => ?enough, fun op rest h hop => ?short, rfl, rfl⟩
  case enough =>
    have hprefix : op = 0xCB → rest ≠ [] := by
      rintro rfl rfl
      exact absurd h (by decide)
    rw [lengthByOpcode_eq_instrLength] at h ⊢
    obtain ⟨i, hi⟩ := exists_decodes h
    exact ⟨i, hi.wellFormed hprefix, decode_of_decodes hi⟩
  case short => exact decode_of_lt_length (by rwa [← lengthByOpcode_eq_instrLength]) hop

/-- Settles O4: the decoder evaluated on each word. -/
theorem specWordsDecode : Obligations.SpecWordsDecode :=
  ⟨rfl, rfl, rfl, rfl, rfl, rfl, rfl, rfl, rfl, rfl, rfl, rfl, rfl, rfl, rfl, rfl, rfl, rfl, rfl, rfl, rfl, rfl, rfl, rfl, rfl, rfl⟩

end Sys2Proof
end

section
/-! SUPPORT and PROOF of O6. The fetch of each format, in both access timings. -/

namespace Sys2Proof.Machine

/-- The opcode fetch leaves PC where it is with the halt bug, which it consumes (R122). -/
theorem State.awake_fetchOpcode (s : State) :
    s.awake.fetchOpcode.2 =
      s.awake.setCpu { s.awake.cpu with haltBug := false, pc := if s.cpu.haltBug then s.cpu.pc else s.cpu.pc + 1 } := rfl

/-- `fetch8()` ends one M-cycle and reads at PC (R123). -/
theorem State.fetch8_setCpu (s : State) (c : Cpu) :
    (s.setCpu c).fetch8 = (s.mcycle.read c.pc, s.mcycle.setCpu { c with pc := c.pc + 1 }) := by
  simp [State.fetch8, State.fetchByte, State.mcycle_setCpu]

/-- The fetch reads the bytes that are decoded, each in its M-cycle, and leaves PC past them. -/
theorem State.awake_fetchInstr_of_decodes {s : State} {p : Word} {i : Instr} {rest : List Byte}
    (hp : p = if s.cpu.haltBug then s.cpu.pc else s.cpu.pc + 1)
    (h : Decodes (s.read s.cpu.pc)
      [(if s.read s.cpu.pc = 0x10 then s.awake else s.awake.mcycles 1).read p, (s.awake.mcycles 2).read (p + 1)] i rest) :
    s.awake.fetchInstr =
      (i, State.setCpu (if s.read s.cpu.pc = 0x10 then s.awake else s.awake.mcycles (2 - rest.length))
        { s.awake.cpu with haltBug := false, pc := p + BitVec.ofNat 16 (2 - rest.length) }) := by
  rw [s.awake_fetchInstr rfl, s.awake_fetchOpcode, ← hp]
  cases h with
  | stop x _ he =>
    simp only [if_pos (lookup_eq_stop_iff.mp he), he]
    simp [State.fetchOperands, State.fetchByte]
  | one _ he | two n _ he | three lo hi _ he | prefixed op2 _ he =>
    simp only [if_neg (ne_0x10_of_lookup he nofun), he]
    simp [State.fetchOperands, State.fetch16, State.fetch8_setCpu, State.mcycles, BitVec.add_assoc]

/-- Settles O6: a step that executes fetches what its bytes decode to. -/
theorem fetchTakesItsCyclesAndTheHaltBug : Obligations.FetchTakesItsCyclesAndTheHaltBug := by
  intro s i rest p hx hp h
  have hfetch := State.awake_fetchInstr_of_decodes hp (decodes_of_decode h)
  rw [step_executes hx, State.nextInstr, hfetch]

end Sys2Proof.Machine
end

section
/-! SUPPORT and PROOF of O2. The encoding of each family. -/

namespace Sys2Proof

open Machine (bits3_cases)

theorem encode_ldRegReg (dst r : Reg8) : encode (.ldRegReg dst r) = [BitVec.ofNat 8 (0x40 + 8 * dst.code + r.code)] := by
  cases dst <;> cases r <;> rfl

theorem encode_ldRegImm (r : Reg8) (n : Byte) : encode (.ldRegImm r n) = [BitVec.ofNat 8 (0x06 + 8 * r.code), n] := by
  cases r <;> rfl

theorem encode_ldRegAtHL (r : Reg8) : encode (.ldRegAtHL r) = [BitVec.ofNat 8 (0x46 + 8 * r.code)] := by
  cases r <;> rfl

theorem encode_ldAtHLReg (r : Reg8) : encode (.ldAtHLReg r) = [BitVec.ofNat 8 (0x70 + r.code)] := by
  cases r <;> rfl

theorem encode_alu (op : AluOp) (t : Operand8) : encode (.alu op t) = [BitVec.ofNat 8 (0x80 + 8 * op.code + t.code)] := by
  cases op <;> rcases t with (_ | _ | _ | _ | _ | _ | _) | _ <;> rfl

theorem encode_aluImm (op : AluOp) (n : Byte) : encode (.aluImm op n) = [BitVec.ofNat 8 (0xC6 + 8 * op.code), n] := by
  cases op <;> rfl

theorem encode_incOperand (t : Operand8) : encode (.incOperand t) = [BitVec.ofNat 8 (0x04 + 8 * t.code)] := by
  rcases t with (_ | _ | _ | _ | _ | _ | _) | _ <;> rfl

theorem encode_decOperand (t : Operand8) : encode (.decOperand t) = [BitVec.ofNat 8 (0x05 + 8 * t.code)] := by
  rcases t with (_ | _ | _ | _ | _ | _ | _) | _ <;> rfl

theorem encode_ldPairImm (p : Pair) (nn : Word) :
    encode (.ldPairImm p nn) = [BitVec.ofNat 8 (0x01 + 16 * p.code), loByte nn, hiByte nn] := by
  cases p <;> rfl

theorem encode_pairs (p : Pair) : encode (.addHL p) = [BitVec.ofNat 8 (0x09 + 16 * p.code)] ∧
    encode (.incPair p) = [BitVec.ofNat 8 (0x03 + 16 * p.code)] ∧ encode (.decPair p) = [BitVec.ofNat 8 (0x0B + 16 * p.code)] := by
  cases p <;> exact ⟨rfl, rfl, rfl⟩

theorem encode_stackPairs (p : StackPair) : encode (.push p) = [BitVec.ofNat 8 (0xC5 + 16 * p.code)] ∧
    encode (.pop p) = [BitVec.ofNat 8 (0xC1 + 16 * p.code)] := by
  cases p <;> exact ⟨rfl, rfl⟩

theorem encode_conditions (cc : Cond) (nn : Word) (e : Byte) :
    encode (.jpCond cc nn) = [BitVec.ofNat 8 (0xC2 + 8 * cc.code), loByte nn, hiByte nn] ∧
    encode (.callCond cc nn) = [BitVec.ofNat 8 (0xC4 + 8 * cc.code), loByte nn, hiByte nn] ∧
    encode (.jrCond cc e) = [BitVec.ofNat 8 (0x20 + 8 * cc.code), e] ∧ encode (.retCond cc) = [BitVec.ofNat 8 (0xC0 + 8 * cc.code)] := by
  cases cc <;> exact ⟨rfl, rfl, rfl, rfl⟩

theorem encode_rst (t : BitVec 3) : encode (.rst t) = [BitVec.ofNat 8 (0xC7 + 8 * t.toNat)] := by
  revert t; refine bits3_cases ?_ ?_ ?_ ?_ ?_ ?_ ?_ ?_ <;> rfl

theorem encode_shift (op : ShiftOp) (t : Operand8) : encode (.shift op t) = [0xCB, BitVec.ofNat 8 (8 * op.code + t.code)] := by
  cases op <;> rcases t with (_ | _ | _ | _ | _ | _ | _) | _ <;> rfl

theorem encode_bit (b : BitVec 3) (t : Operand8) : encode (.bit b t) = [0xCB, BitVec.ofNat 8 (0x40 + 8 * b.toNat + t.code)] := by
  revert b; refine bits3_cases ?_ ?_ ?_ ?_ ?_ ?_ ?_ ?_ <;> rcases t with (_ | _ | _ | _ | _ | _ | _) | _ <;> rfl

theorem encode_res (b : BitVec 3) (t : Operand8) : encode (.res b t) = [0xCB, BitVec.ofNat 8 (0x80 + 8 * b.toNat + t.code)] := by
  revert b; refine bits3_cases ?_ ?_ ?_ ?_ ?_ ?_ ?_ ?_ <;> rcases t with (_ | _ | _ | _ | _ | _ | _) | _ <;> rfl

theorem encode_set (b : BitVec 3) (t : Operand8) : encode (.set b t) = [0xCB, BitVec.ofNat 8 (0xC0 + 8 * b.toNat + t.code)] := by
  revert b; refine bits3_cases ?_ ?_ ?_ ?_ ?_ ?_ ?_ ?_ <;> rcases t with (_ | _ | _ | _ | _ | _ | _) | _ <;> rfl

/-- Settles O2: the families by their operand fields, the other rows one by one. -/
theorem encodingsFollowTheTables : Obligations.EncodingsFollowTheTables :=
  ⟨encode_ldRegReg, encode_ldRegImm, encode_ldRegAtHL, encode_ldAtHLReg, fun _ => rfl, encode_alu, encode_aluImm,
    fun t => ⟨encode_incOperand t, encode_decOperand t⟩, encode_ldPairImm, encode_pairs, encode_stackPairs, encode_conditions, encode_rst,
    encode_shift, fun b t => ⟨encode_bit b t, encode_res b t, encode_set b t⟩, ⟨rfl, rfl, rfl, rfl, fun _ => rfl⟩,
    ⟨rfl, rfl, rfl, rfl, rfl, rfl, rfl, rfl⟩, ⟨rfl, rfl, rfl, rfl, rfl, rfl, rfl, rfl⟩, fun _ => ⟨rfl, rfl, rfl, rfl, rfl⟩,
    fun _ => ⟨rfl, rfl, rfl, rfl, rfl⟩, ⟨rfl, rfl, rfl, rfl, rfl, rfl⟩, by decide⟩

end Sys2Proof
end

section
/-! SUPPORT and PROOFS of O17 and O18. Each form is its shared operation at the address of its rule; the operations of more than one part are
written out first. -/

namespace Sys2Proof.Machine

/-- All that `LD A,(HL+)` and `LD A,(HL-)` do (40_load8 R165, R166): A is read at HL as it was, and HL moves by `d`. -/
theorem State.loadAStep_eq (s : State) (d : Word) :
    s.loadAStep d = s.mcycle.setCpu
      { s.cpu with a := s.mcycle.read s.cpu.hl, h := hiByte (s.cpu.hl + d), l := loByte (s.cpu.hl + d) } := rfl

/-- All that `LD (HL+),A` and `LD (HL-),A` do (R167, R168): A is stored at HL as it was, and HL moves by `d`. -/
theorem State.storeAStep_eq (s : State) (d : Word) :
    s.storeAStep d = (s.mcycle.write s.cpu.hl s.cpu.a).setCpu
      { (s.mcycle.write s.cpu.hl s.cpu.a).cpu with h := hiByte (s.cpu.hl + d), l := loByte (s.cpu.hl + d) } := rfl

/-- All that `LD (nn),SP` does (41_load16 R181): two stores in M-cycles of their own, the low byte first. -/
theorem State.storeSp_eq (s : State) (nn : Word) :
    s.storeSp nn = State.write (State.write s.mcycle nn (loByte s.cpu.sp)).mcycle (nn + 1) (hiByte s.cpu.sp) := rfl

/-- Settles O17: with the I/O page and HL - 1 spelled as the model does, each form is a shared load. -/
theorem byteLoads : Obligations.ByteLoads := by
  intro s
  simp only [← ioPage_eq, BitVec.sub_eq_add_neg]
  exact ⟨fun dst r => exec_family_ldRegReg dst r s, fun r n => exec_family_ldRegImm r n s, fun r => exec_family_ldRegAtHL r s,
    rfl, rfl, fun _ => rfl, rfl, fun _ => rfl,
    congrArg Host.Outcome.next (s.loadAStep_eq 1), congrArg Host.Outcome.next (s.loadAStep_eq (-1))⟩

/-- Settles O18: in the same spelling each form is one shared store, and `LD (nn),SP` is two. -/
theorem byteAndWordStores : Obligations.ByteAndWordStores := by
  intro s
  simp only [← ioPage_eq, BitVec.sub_eq_add_neg]
  refine ⟨fun r => exec_family_ldAtHLReg r s, fun _ => rfl, rfl, rfl, fun _ => rfl, rfl, fun _ => rfl, ?steps,
    fun nn => congrArg Host.Outcome.next (s.storeSp_eq nn)⟩
  case steps =>
    rintro w rfl
    exact ⟨congrArg Host.Outcome.next (s.storeAStep_eq 1), congrArg Host.Outcome.next (s.storeAStep_eq (-1))⟩

end Sys2Proof.Machine
end

section
/-! SUPPORT and PROOFS of O19, O20 and O21. Each form of the 16-bit loads is its shared operation; PUSH and POP are written out from the stack's two
equations, and a stack in RAM reads back what was pushed on it. -/

namespace Sys2Proof.Machine

/-! Loads of a pair and of SP. -/

/-- The flags of `ADD SP,e` and `LD HL,SP+e` by their places in F (41_load16 R183, 43_alu16 R233). -/
theorem spPlusFlags_eq (sp : Word) (e : Byte) :
    spPlusFlags sp e =
      flagValue false false (decide (sp.toNat % 16 + e.toNat % 16 > 0x0F)) (decide (sp.toNat % 256 + e.toNat > 0xFF)) :=
  flagsByte_eq _ _ _ _

/-- All that `LD SP,HL` does (R182): an internal M-cycle, then SP. -/
theorem State.copyHLToSp_eq (s : State) : s.copyHLToSp = s.mcycle.setCpu { s.cpu with sp := s.cpu.hl } := by
  simp [State.copyHLToSp]

/-- Settles O19: SP plus the displacement and its flags are the model's, and each form is a shared operation. -/
theorem wordLoadsAndStackPointer : Obligations.WordLoadsAndStackPointer := by
  refine fun s => ⟨fun nn => ⟨rfl, rfl, rfl, rfl⟩, congrArg Host.Outcome.next s.copyHLToSp_eq, ?displaced⟩
  case displaced =>
    rintro e _ _ rfl rfl
    rw [← spPlus_eq, ← spPlusFlags_eq]
    exact ⟨rfl, rfl⟩

/-! PUSH and POP. -/

/-- All that `PUSH qq` does (R184): an internal M-cycle, two writes in M-cycles of their own, SP down by 2. -/
theorem State.pushPair_eq (s : State) (p : StackPair) (w : State)
    (hw : w = State.write (State.write (s.mcycles 2) (s.cpu.sp - 1) (hiByte (s.cpu.getStackPair p))).mcycle (s.cpu.sp - 2)
      (loByte (s.cpu.getStackPair p))) :
    s.pushPair p = w.setCpu { w.cpu with sp := s.cpu.sp - 2 } := by
  rw [State.pushPair, State.push16_eq, State.mcycle_cpu, hw]
  rfl

/-- All that `POP qq` does (R185): two reads in M-cycles of their own, the pair, SP up by 2. -/
theorem State.popPair_eq (s : State) (p : StackPair) :
    s.popPair p = (s.mcycles 2).setCpu (Cpu.setStackPair { s.cpu with sp := s.cpu.sp + 2 } p
      (wordOf ((s.mcycles 2).read (s.cpu.sp + 1)) (s.mcycle.read s.cpu.sp))) := by
  simp [State.popPair, State.pop16_eq, State.mcycles]

/-- Settles O20: PUSH by the pair's word, POP by the halves of the word read; F keeps its lower nibble 0 (R186). -/
theorem pushAndPop : Obligations.PushAndPop := by
  constructor
  case left =>
    intro s w q v hv hw
    have hpair : v = s.cpu.getStackPair q := by rw [hv]; cases q <;> rfl
    rw [exec_family_push, s.pushPair_eq q w (hpair ▸ hw)]
  case right =>
    rintro s _ _ rfl rfl
    have hpop : ∀ p : StackPair, exec (.pop p) s = .next (s.popPair p) := fun p => exec_family_pop p s
    simp only [State.popPair_eq] at hpop
    refine ⟨(hpop .bc).trans ?_, (hpop .de).trans ?_, (hpop .hl).trans ?_, (hpop .af).trans ?_⟩ <;>
      simp [Cpu.setStackPair, Cpu.setHL, ← maskF_eq]

/-! A stack in RAM. -/

/-- A pair's value after a pop: the word popped, with F's lower nibble 0 (R186). -/
theorem Cpu.getStackPair_setStackPair (c : Cpu) (p : StackPair) (v : Word) :
    (c.setStackPair p v).getStackPair p = if p = .af then v &&& 0xFFF0 else v := by
  have hmask : wordOf (hiByte v) (maskF (loByte v)) = v &&& 0xFFF0 := by
    calc wordOf (hiByte v) (maskF (loByte v))
      _ = wordOf (hiByte v &&& 0xFF) (loByte v &&& 0xF0) := congrArg (wordOf · _) (BitVec.and_allOnes (x := hiByte v)).symm
      _ = wordOf (hiByte v) (loByte v) &&& 0xFFF0 := BitVec.and_append.symm
      _ = v &&& 0xFFF0 := by rw [wordOf_hiByte_loByte]
  cases p with
  | af => exact hmask
  | _ => exact wordOf_hiByte_loByte v

/-- The address of a byte of work RAM or high RAM (20_memory R67, R72): no gate closes it and no device's time changes it. -/
def InRam (a : Word) : Prop := regionOf a = .wram ∨ regionOf a = .hram

theorem State.read_mcycle_ram (s : State) {a : Word} (h : InRam a) : s.mcycle.read a = s.read a := by
  obtain h | h := h
  · simp [State.read_wram _ h]
  · simp [State.read_hram _ h]

theorem State.read_mcycles_ram (n : Nat) (s : State) {a : Word} (h : InRam a) : (s.mcycles n).read a = s.read a := by
  induction n generalizing s with
  | zero => rfl
  | succ n ih => rw [State.mcycles, ih, s.read_mcycle_ram h]

theorem State.read_store_ram_same (s : State) {a : Word} (v : Byte) (h : InRam a) : (s.store a v).read a = v := by
  unfold State.store
  obtain h | h := h <;> exact s.mcycle.read_write_same v (by rw [h]; rfl) (by simp [h]) (by simp [h]) (by simp [h]) (by simp [h])

/-- Two addresses in RAM are two bytes of storage. -/
theorem State.cellOf_ne_of_ram (s : State) {a b : Word} (ha : InRam a) (hb : InRam b) (hne : b ≠ a) : s.cellOf b ≠ s.cellOf a := by
  have hnat : b.toNat ≠ a.toNat := fun e => hne (BitVec.eq_of_toNat_eq e)
  unfold State.cellOf
  obtain ha | ha := ha <;> obtain hb | hb := hb
  case inl.inl =>
    have := regionOf_wram ha
    have := regionOf_wram hb
    simp only [ha, hb, ne_eq, Prod.mk.injEq, true_and]
    omega
  all_goals simp [ha, hb, hnat]

theorem State.read_store_ram_other (s : State) {a b : Word} (v : Byte) (ha : InRam a) (hb : InRam b) (hne : b ≠ a) :
    (s.store a v).read b = s.read b := by
  have hplain : (regionOf a).plain = true := by obtain h | h := ha <;> rw [h] <;> rfl
  rw [State.store, s.mcycle.read_write_other v hplain (s.mcycle.cellOf_ne_of_ram ha hb hne), s.read_mcycle_ram hb]

/-- What a push on a stack in RAM leaves there: the high byte above the low byte (R184). -/
theorem State.read_push16_ram (s : State) (v : Word) (hhi : InRam (s.cpu.sp - 1)) (hlo : InRam (s.cpu.sp - 2)) :
    (s.push16 v).read (s.cpu.sp - 1) = hiByte v ∧ (s.push16 v).read (s.cpu.sp - 2) = loByte v := by
  have hne : s.cpu.sp - 1 ≠ s.cpu.sp - 2 := by bv_omega
  rw [State.push16_eq, State.setSp_eq, State.read_setCpu, State.read_setCpu]
  refine ⟨?_, State.read_store_ram_same _ _ hlo⟩
  rw [State.read_store_ram_other _ _ hlo hhi hne, State.read_store_ram_same _ _ hhi]

theorem State.push16_sp (s : State) (v : Word) : (s.push16 v).cpu.sp = s.cpu.sp - 2 := by rw [State.push16_eq]; rfl

/-- A push on a stack in RAM is undone by the pop of its word. -/
theorem State.popPair_push16 (s : State) (v : Word) (p : StackPair) (hhi : InRam (s.cpu.sp - 1)) (hlo : InRam (s.cpu.sp - 2)) :
    ((s.push16 v).popPair p).cpu = Cpu.setStackPair { (s.push16 v).cpu with sp := s.cpu.sp } p v := by
  obtain ⟨hreadHi, hreadLo⟩ := s.read_push16_ram v hhi hlo
  have hsp : s.cpu.sp - 2 + 1 = s.cpu.sp - 1 := by bv_omega
  have hsp' : s.cpu.sp - 2 + 2 = s.cpu.sp := by bv_omega
  rw [State.popPair_eq, State.push16_sp, hsp, hsp', State.read_mcycle_ram _ hlo, hreadLo, State.read_mcycles_ram _ _ hhi, hreadHi,
    wordOf_hiByte_loByte, State.setCpu_cpu]

/-- Settles O21: the pop reads the word that the push stored. -/
theorem pushThenPop : Obligations.PushThenPop := by
  intro s t u q q' hram ht hu
  rw [exec_family_push] at ht
  rw [exec_family_pop] at hu
  cases ht
  cases hu
  rw [← s.mcycle_cpu] at hram
  have hcpu := s.mcycle.popPair_push16 (s.cpu.getStackPair q) q' (hram _ (.inl rfl)) (hram _ (.inr rfl))
  rw [State.pushPair, hcpu, Cpu.setStackPair_sp, Cpu.getStackPair_setStackPair, State.mcycle_cpu]
  exact ⟨rfl, rfl⟩

end Sys2Proof.Machine
end

section
/-! SUPPORT and PROOFS of O22 to O25. Each family is its shared operation, the flag computations in numbers; DAA's two cases; and the two digits of
a decimal sum or difference in numbers. -/

namespace Sys2Proof.Machine

/-! The ALU operations. -/

/-- `SUB s` and `CP s` (42_alu8 R203, R208): without a borrow in, a difference of 0 means equal operands. -/
theorem subWith_noBorrow_eq (a s : Byte) :
    subWith a s false =
      { value := BitVec.ofNat 8 (a.toNat + 256 - s.toNat)
        f := flagValue (decide (a.toNat = s.toNat)) true (decide (a.toNat % 16 < s.toNat % 16)) (decide (a.toNat < s.toNat)) } := by
  have ha := a.isLt
  have hs := s.isLt
  have hvalue : BitVec.ofNat 8 (a.toNat + 512 - s.toNat) = BitVec.ofNat 8 (a.toNat + 256 - s.toNat) := by
    apply BitVec.eq_of_toNat_eq
    rw [BitVec.toNat_ofNat, BitVec.toNat_ofNat]
    omega
  have hzero : (a.toNat + 512 - s.toNat) % 256 = 0 ↔ a.toNat = s.toNat := by omega
  simp only [subWith_eq, Bool.toNat_false, Nat.sub_zero, Nat.add_zero, hvalue, hzero]

/-- Settles O22: each form is the operation's result on its value, and that result in numbers or bits is the rule's. -/
theorem aluOperations : Obligations.AluOperations := by
  rintro i s u v _ _ _ rfl rfl rfl
  refine ⟨fun h => ?add, fun h => ?adc, fun h => ?sub, fun h => ?sbc, fun h => ?cp, fun h => ?and, fun h => ?xor, fun h => ?or⟩ <;>
    rw [exec_aluForm _ i s u v h]
  case add => rw [aluResult, addWith_eq]; rfl
  case adc => rw [aluResult, addWith_eq]
  case sub => rw [aluResult, subWith_noBorrow_eq]
  case sbc => rw [aluResult, subWith_eq]
  case cp => rw [aluResult, subWith_noBorrow_eq]
  case and => exact ⟨s.cpu.a &&& v, fun _ => BitVec.getLsbD_and, by rw [← flagsByte_eq]; rfl⟩
  case xor => exact ⟨s.cpu.a ^^^ v, fun _ => BitVec.getLsbD_xor, by rw [← flagsByte_eq]; rfl⟩
  case or => exact ⟨s.cpu.a ||| v, fun _ => BitVec.getLsbD_or, by rw [← flagsByte_eq]; rfl⟩

/-! INC and DEC. -/

/-- Settles O23: each form is the shared read-modify-write; on (HL) F changes after the store. -/
theorem incrementsAndDecrements : Obligations.IncrementsAndDecrements := by
  rintro s _ rfl
  constructor
  case left =>
    rintro r _ rfl
    rw [exec_family_incOperand, exec_family_decOperand, State.modify_reg, State.modify_reg, incResult_eq, decResult_eq]
    exact ⟨rfl, rfl⟩
  case right =>
    rintro _ _ _ rfl rfl rfl
    have hinc : exec .inc_atHL s = .next (s.modify .atHL incResult) := exec_family_incOperand .atHL s
    have hdec : exec .dec_atHL s = .next (s.modify .atHL decResult) := exec_family_decOperand .atHL s
    rw [hinc, hdec, State.modify_atHL, State.modify_atHL, incResult_eq, decResult_eq]
    exact ⟨rfl, rfl⟩

/-! DAA. -/

/-- DAA after an addition (R213), in numbers. -/
theorem daaResult_add (a f : Byte) (hn : nFlag f = false) (r : Byte)
    (hr : r = BitVec.ofNat 8 (a.toNat + (if cFlag f ∨ a.toNat > 0x99 then 0x60 else 0) +
      (if hFlag f ∨ a.toNat % 16 > 0x09 then 0x06 else 0))) :
    daaResult a f = { value := r, f := flagValue (decide (r = 0)) false false (cFlag f || decide (a.toNat > 0x99)) } := by
  have hvalue : a + daaAmount a f = r := by
    apply BitVec.eq_of_toNat_eq
    rw [hr, daaAmount, hn]
    simp only [Bool.false_eq_true, if_false, Bool.or_eq_true, decide_eq_true_eq]
    split <;> split <;> simp
  simp [daaResult, daaCarry, hn, hvalue, flagsByte_eq]

/-- DAA after a subtraction (R213), in numbers. -/
theorem daaResult_sub (a f : Byte) (hn : nFlag f = true) (r : Byte)
    (hr : r = BitVec.ofNat 8 (a.toNat + 256 - (if cFlag f then 0x60 else 0) - (if hFlag f then 0x06 else 0))) :
    daaResult a f = { value := r, f := flagValue (decide (r = 0)) true false (cFlag f) } := by
  have ha := a.isLt
  have hvalue : a - daaAmount a f = r := by
    apply BitVec.eq_of_toNat_eq
    rw [hr, daaAmount, hn]
    simp only [if_true]
    cases cFlag f <;> cases hFlag f <;> simp <;> omega
  simp [daaResult, daaCarry, hn, hvalue, flagsByte_eq]

/-- Settles O24: `exec .daa` writes `daaResult`, whose two cases are the rule's. -/
theorem decimalAdjust : Obligations.DecimalAdjust := by
  rintro s _ _ _ rfl rfl rfl
  have hexec : exec .daa s = .next (s.setAF (daaResult s.cpu.a s.cpu.f)) := rfl
  refine ⟨fun hn r hr => ?_, fun hn r hr => ?_⟩
  · rw [hexec, daaResult_add _ _ hn r hr]
    rfl
  · rw [hexec, daaResult_sub _ _ hn r hr]
    rfl

/-! DAA on two decimal digits. -/

/-- The tens of a two-digit decimal in the upper nibble, its ones in the lower. -/
def decimalCode (k : Nat) : Nat := 16 * (k / 10) + k % 10

/-- The byte of a two-digit decimal. -/
def packedDecimal (k : Nat) : Byte := BitVec.ofNat 8 (decimalCode k)

theorem toNat_packedDecimal {k : Nat} (h : k < 100) : (packedDecimal k).toNat = decimalCode k := by
  rw [packedDecimal, BitVec.toNat_ofNat, decimalCode]
  omega

/-- In the binary sum of two decimals, DAA's test of C and 0x99 finds the decimal carry. -/
theorem decimalCode_add_carry {x y k : Nat} (hx : x < 100) (hy : y < 100) (hk : k < 2) :
    decimalCode x + decimalCode y + k > 0xFF ∨ (decimalCode x + decimalCode y + k) % 256 > 0x99 ↔ 100 ≤ x + y + k := by
  unfold decimalCode
  generalize hsum : 16 * (x / 10) + x % 10 + (16 * (y / 10) + y % 10) + k = sum
  have hbyte : sum > 0xFF ∨ sum % 256 > 0x99 ↔ sum > 0x99 := by omega
  have htens := Nat.lt_or_ge (x / 10 + y / 10) 10
  rw [hbyte]
  omega

/-- There DAA's test of H and 9 finds the carry out of the lower digits. -/
theorem decimalCode_add_halfCarry {x y k : Nat} (hk : k < 2) :
    decimalCode x % 16 + decimalCode y % 16 + k > 0x0F ∨ (decimalCode x + decimalCode y + k) % 256 % 16 > 0x09 ↔
      10 ≤ x % 10 + y % 10 + k := by
  unfold decimalCode
  omega

/-- C after the binary subtraction of two decimals is the decimal borrow. -/
theorem decimalCode_sub_borrow {x y k : Nat} (hk : k < 2) : decimalCode x < decimalCode y + k ↔ x < y + k := by
  unfold decimalCode
  omega

/-- H after that subtraction is the borrow of the lower digit. -/
theorem decimalCode_sub_halfBorrow (x y k : Nat) : decimalCode x % 16 < decimalCode y % 16 + k ↔ x % 10 < y % 10 + k := by
  unfold decimalCode
  omega

/-- DAA corrects the binary sum of two decimals by 6 for each decimal carry. -/
theorem daaResult_addWith {x y : Nat} (c : Bool) (hx : x < 100) (hy : y < 100) (r : Flagged)
    (hr : r = addWith (packedDecimal x) (packedDecimal y) c) :
    (daaResult r.value r.f).value = packedDecimal ((x + y + c.toNat) % 100) ∧
      cFlag (daaResult r.value r.f).f = decide (100 ≤ x + y + c.toNat) := by
  have hk := c.toNat_lt
  have hcarry := decimalCode_add_carry hx hy hk
  have hhalf := decimalCode_add_halfCarry (x := x) (y := y) hk
  subst hr
  rw [daaResult_add _ _ (by simp [addWith]) _ rfl, addWith_eq, toNat_packedDecimal hx, toNat_packedDecimal hy]
  simp only [← flagsByte_eq, cFlag_flagsByte, hFlag_flagsByte, BitVec.toNat_ofNat, Nat.reducePow, decide_eq_true_eq, hcarry, hhalf,
    ← Bool.decide_or, and_true]
  apply BitVec.eq_of_toNat_eq
  rw [toNat_packedDecimal (Nat.mod_lt _ (by decide)), BitVec.toNat_ofNat]
  unfold decimalCode
  split <;> split <;> omega

/-- DAA corrects the binary difference of two decimals by 6 for each decimal borrow. -/
theorem daaResult_subWith {x y : Nat} (c : Bool) (hx : x < 100) (hy : y < 100) (r : Flagged)
    (hr : r = subWith (packedDecimal x) (packedDecimal y) c) :
    (daaResult r.value r.f).value = packedDecimal ((x + 100 - y + 100 - c.toNat) % 100) ∧
      cFlag (daaResult r.value r.f).f = decide (x < y + c.toNat) := by
  have hk := c.toNat_lt
  subst hr
  rw [daaResult_sub _ _ (by simp [subWith]) _ rfl, subWith_eq, toNat_packedDecimal hx, toNat_packedDecimal hy]
  simp only [← flagsByte_eq, cFlag_flagsByte, hFlag_flagsByte, BitVec.toNat_ofNat, decide_eq_true_eq, decimalCode_sub_borrow hk,
    decimalCode_sub_halfBorrow, and_true]
  apply BitVec.eq_of_toNat_eq
  rw [toNat_packedDecimal (Nat.mod_lt _ (by decide)), BitVec.toNat_ofNat]
  unfold decimalCode
  split <;> split <;> omega

/-- Settles O25: ADC and SBC leave `addWith` and `subWith`, which DAA turns into the decimal sum and difference. -/
theorem daaIsDecimal : Obligations.DaaIsDecimal := by
  intro bcd s t u x y hbcd hx hy ha
  obtain rfl : bcd = packedDecimal := funext hbcd
  have hdaa : exec .daa t = .next (t.setAF (daaResult t.cpu.a t.cpu.f)) := rfl
  rw [exec_family_aluImm, exec_family_aluImm, hdaa]
  refine ⟨?adc, ?sbc⟩ <;> (rintro _ rfl ht hu; cases ht; cases hu)
  case adc => exact daaResult_addWith _ hx hy _ (by rw [← ha]; rfl)
  case sbc => exact daaResult_subWith _ hx hy _ (by rw [← ha]; rfl)

end Sys2Proof.Machine
end

section
/-! SUPPORT and PROOF of O27. Each form is its shared operation, with the pair's sum and the flags of `ADD HL,rr` in numbers. -/

namespace Sys2Proof.Machine

/-- The flags of `ADD HL,rr` by their places in F (43_alu16 R230). -/
theorem addHLFlags_eq (hl rr : Word) (f : Byte) :
    addHLFlags hl rr f =
      flagValue (zFlag f) false (decide (hl.toNat % 4096 + rr.toNat % 4096 > 0x0FFF)) (decide (hl.toNat + rr.toNat > 0xFFFF)) :=
  flagsByte_eq _ _ _ _

/-- All that `ADD HL,rr` does (R230): an internal M-cycle, the halves of the sum modulo 65536, and F. -/
theorem State.addToHL_eq (s : State) (p : Pair) (r : Word) (hr : r = BitVec.ofNat 16 (s.cpu.hl.toNat + (s.cpu.getPair p).toNat)) :
    s.addToHL p = s.mcycle.setCpu
      { s.cpu with h := hiByte r, l := loByte r, f := addHLFlags s.cpu.hl (s.cpu.getPair p) s.cpu.f } := by
  rw [State.addToHL, BitVec.add_def, ← hr]
  rfl

/-- All that `INC rr` and `DEC rr` do (R231, R232): an internal M-cycle, the pair moved by `d` modulo 65536, and no flag. -/
theorem State.movePair_eq (s : State) (p : Pair) (d : Word) :
    s.movePair p d = s.mcycle.setCpu (s.cpu.setPair p (BitVec.ofNat 16 ((s.cpu.getPair p).toNat + d.toNat))) := by
  rw [State.movePair, BitVec.add_def]

/-- Settles O27: each form is a shared operation, a step down adding 65535 modulo 65536. -/
theorem wordArithmetic : Obligations.WordArithmetic := by
  rintro s p _ rfl
  refine ⟨?add, ?inc, ?dec⟩
  case add =>
    rintro _ r rfl hr
    rw [exec_family_addHL, s.addToHL_eq p r hr, addHLFlags_eq]
  case inc => exact (exec_family_incPair p s).trans (congrArg Host.Outcome.next (s.movePair_eq p 1))
  case dec => exact (exec_family_decPair p s).trans (congrArg Host.Outcome.next (s.movePair_eq p (-1)))

end Sys2Proof.Machine
end

section
/-! SUPPORT and PROOFS of O26, O28 and O29. Each form is its shared operation, the rotates and shifts in numbers and the bit operations bit by bit. -/

namespace Sys2Proof.Machine

/-! The rotates and shifts. -/

theorem shiftResult_eq (op : ShiftOp) (v f : Byte) :
    shiftResult op v f =
      { value := BitVec.ofNat 8 (shiftByRule op v.toNat (cFlag f).toNat).1
        f := flagValue (decide ((shiftByRule op v.toNat (cFlag f).toNat).1 = 0)) false false
          (shiftByRule op v.toNat (cFlag f).toNat).2 } := by
  have hlt := shiftByRule_lt op v (cFlag f)
  simp only [shiftResult, shiftValue_eq, flagsByte_eq, eq_zero_iff_toNat, BitVec.toNat_ofNat, Nat.mod_eq_of_lt hlt]

/-- RLC and RL drop the bit that leaves the byte: the sum modulo 256 is the same without it. -/
theorem ofNat_mod_add (m n : Nat) : BitVec.ofNat 8 (m % 256 + n) = BitVec.ofNat 8 (m + n) := by
  apply BitVec.eq_of_toNat_eq
  rw [BitVec.toNat_ofNat, BitVec.toNat_ofNat, Nat.mod_add_mod]

theorem cplResult_eq (a f : Byte) :
    cplResult a f = { value := BitVec.ofNat 8 (255 - a.toNat), f := flagValue (zFlag f) true true (cFlag f) } := by
  have hvalue : ~~~a = BitVec.ofNat 8 (255 - a.toNat) := by
    apply BitVec.eq_of_toNat_eq
    rw [BitVec.toNat_not, BitVec.toNat_ofNat]
    omega
  rw [cplResult, hvalue, flagsByte_eq]

/-- All that RLCA, RRCA, RLA and RRA do (R240 to R243). -/
theorem State.accRotate_eq (s : State) (op : ShiftOp) :
    s.setAF (accRotateResult op s.cpu.a s.cpu.f) = s.setCpu
      { s.cpu with
        a := BitVec.ofNat 8 (shiftByRule op s.cpu.a.toNat (cFlag s.cpu.f).toNat).1
        f := flagValue false false false (shiftByRule op s.cpu.a.toNat (cFlag s.cpu.f).toNat).2 } := by
  rw [State.setAF, accRotateResult, shiftValue_eq, flagsByte_eq]

/-- Settles O26: each row writes A and F, the rotates by the rule of the prefixed ones with Z cleared. -/
theorem accumulatorAndCarry : Obligations.AccumulatorAndCarry := by
  rintro s _ _ rfl rfl
  refine ⟨?rlca, ?rrca, ?rla, ?rra, ?cpl, ?scf, ?ccf⟩
  case rlca =>
    rw [← ofNat_mod_add]
    exact congrArg Host.Outcome.next (s.accRotate_eq .rlc)
  case rrca => exact congrArg Host.Outcome.next (s.accRotate_eq .rrc)
  case rla =>
    rw [← ofNat_mod_add]
    exact congrArg Host.Outcome.next (s.accRotate_eq .rl)
  case rra => exact congrArg Host.Outcome.next (s.accRotate_eq .rr)
  case cpl =>
    have hexec : exec .cpl s = .next (s.setAF (cplResult s.cpu.a s.cpu.f)) := rfl
    rw [hexec, cplResult_eq]
    rfl
  case scf =>
    rw [← flagsByte_eq]
    rfl
  case ccf =>
    rw [← flagsByte_eq]
    rfl

/-- Settles O28: each form is the shared read-modify-write; on (HL) F changes after the store. -/
theorem rotatesAndShifts : Obligations.RotatesAndShifts := by
  rintro s op _ rfl
  constructor
  case left =>
    rintro r _ rfl
    rw [exec_family_shift, State.modify_reg, shiftResult_eq]
  case right =>
    rintro _ _ _ rfl rfl rfl
    rw [exec_family_shift, State.modify_atHL, shiftResult_eq]
    rfl

/-! BIT, RES and SET. -/

/-- The mask of R254 and R255 has one bit. -/
theorem getLsbD_one_shiftLeft (b : BitVec 3) {k : Nat} (hk : k < 8) :
    ((1 : Byte) <<< b.toNat).getLsbD k = decide (k = b.toNat) := by
  have hbit : (1 : Byte).getLsbD (k - b.toNat) = decide (k - b.toNat = 0) := by
    rw [BitVec.ofNat_eq_ofNat, BitVec.getLsbD_one, decide_eq_true (by decide), Bool.true_and]
  rw [BitVec.getLsbD_shiftLeft, hbit, decide_eq_true hk, Bool.true_and, ← decide_not, ← Bool.decide_and, decide_eq_decide]
  omega

theorem getLsbD_resValue (b : BitVec 3) (v : Byte) (k : Nat) (hk : k < 8) :
    (resValue b v).getLsbD k = if k = b.toNat then false else v.getLsbD k := by
  rw [resValue, BitVec.getLsbD_and, BitVec.getLsbD_not, getLsbD_one_shiftLeft b hk]
  split <;> simp [*]

theorem getLsbD_setValue (b : BitVec 3) (v : Byte) (k : Nat) (hk : k < 8) :
    (setValue b v).getLsbD k = if k = b.toNat then true else v.getLsbD k := by
  rw [setValue, BitVec.getLsbD_or, getLsbD_one_shiftLeft b hk]
  split <;> simp [*]

/-- All that `BIT b,t` does (R253): the read and F. -/
theorem State.testBit_eq (s : State) (b : BitVec 3) (t : Operand8) :
    s.testBit b t = (s.readOperand t).2.setCpu
      { s.cpu with f := flagValue (!(s.readOperand t).1.getLsbD b.toNat) false true (cFlag s.cpu.f) } := by
  rw [State.testBit, bitFlags, flagsByte_eq, State.setF, State.readOperand_cpu]

/-- All that `RES b,(HL)` and `SET b,(HL)` do (R254, R255): a read, then the write in the next M-cycle. -/
theorem State.modifyBits_atHL (s : State) (g : Byte → Byte) :
    s.modifyBits .atHL g = (s.mcycles 2).write s.cpu.hl (g (s.mcycle.read s.cpu.hl)) := by
  show s.mcycle.store s.mcycle.cpu.hl _ = _
  rw [State.mcycle_cpu]
  rfl

/-- Settles O29: each form is its shared operation, and the bits of the byte that RES and SET write are the rule's. -/
theorem bitInstructions : Obligations.BitInstructions := by
  intro s b
  simp only [exec_family_bit, exec_family_res, exec_family_set, State.testBit_eq, State.modifyBits_atHL]
  refine ⟨?bitReg, ?bitAtHL, ?bitsReg, ?bitsAtHL⟩
  case bitReg => exact fun _ => rfl
  case bitAtHL => rfl
  case bitsReg => exact fun _ => ⟨resValue b _, setValue b _, getLsbD_resValue b _, getLsbD_setValue b _, rfl, rfl⟩
  case bitsAtHL => exact ⟨resValue b _, setValue b _, getLsbD_resValue b _, getLsbD_setValue b _, rfl, rfl⟩

end Sys2Proof.Machine
end

section
/-! SUPPORT and PROOFS of O30 and O31. Each form is its shared operation, written out; the conditional forms branch on one and the same bit of F. -/

namespace Sys2Proof.Machine

/-! Conditions and jumps. -/

/-- A condition is the flag it names, or its negation (45_control_flow R270). -/
theorem condHolds_eq (cc : Cond) (f : Byte) {b : Bool}
    (hb : b = (match cc with | .nz => !zFlag f | .z => zFlag f | .nc => !cFlag f | .c => cFlag f)) : condHolds cc f = b := by
  rw [hb]
  cases cc <;> rfl

/-- The target of `JR e` in numbers (R274): the address after the instruction plus the signed displacement, modulo 2^16. -/
theorem State.relative_eq (s : State) (e : Byte) : s.relative e = BitVec.ofInt 16 ((s.cpu.pc.toNat : Int) + e.toInt) :=
  spPlus_eq s.cpu.pc e

/-- All that a jump does (R271, R274): an internal M-cycle, then PC. -/
theorem State.jump_eq (s : State) (target : Word) : s.jump target = s.mcycle.setCpu { s.cpu with pc := target } := by
  simp [State.jump]

/-- All that `JP cc,nn` and `JR cc,e` do (R272, R275), the condition's value given. -/
theorem State.jumpIf_eq {s : State} {cc : Cond} {b : Bool} (hb : condHolds cc s.cpu.f = b) (target : Word) :
    s.jumpIf cc target = if b then s.mcycle.setCpu { s.cpu with pc := target } else s := by
  rw [State.jumpIf, hb, State.jump_eq]

/-- Settles O30: the jumps by their one shared operation, JR's target in numbers, the condition by the flag it names. -/
theorem jumps : Obligations.Jumps := by
  intro s nn e r hr
  have hrel : s.relative e = r := hr ▸ s.relative_eq e
  refine ⟨congrArg Host.Outcome.next (s.jump_eq nn), rfl, ?jr, ?cond⟩
  case jr => exact congrArg Host.Outcome.next (hrel ▸ s.jump_eq _)
  case cond =>
    intro cc b hb
    have hcc := condHolds_eq cc s.cpu.f hb
    rw [exec_family_jpCond, exec_family_jrCond, State.jumpIf_eq hcc, State.jumpIf_eq hcc, hrel]
    exact ⟨rfl, rfl⟩

/-! Calls and returns. -/

/-- All that a call does (R276, R281): an internal M-cycle, two writes in M-cycles of their own, the high byte of PC first. -/
theorem State.call_eq_write (s w : State) (target : Word)
    (hw : w = State.write (State.write (s.mcycles 2) (s.cpu.sp - 1) (hiByte s.cpu.pc)).mcycle (s.cpu.sp - 2) (loByte s.cpu.pc)) :
    s.call target = w.setCpu { w.cpu with sp := s.cpu.sp - 2, pc := target } := by
  rw [State.call_eq, hw]
  rfl

/-- All that `RETI` does (R280): as RET, and IME at once. -/
theorem State.returnFromInterrupt_eq (s : State) :
    s.returnFromInterrupt = (s.mcycles 3).setCpu
      { s.cpu with sp := s.cpu.sp + 2, pc := wordOf ((s.mcycles 2).read (s.cpu.sp + 1)) (s.mcycle.read s.cpu.sp), ime := true } := by
  rw [State.returnFromInterrupt, State.ret_eq]
  rfl

/-- A return after one internal M-cycle: every access of RET one M-cycle later (R279). -/
theorem State.ret_mcycle_eq (s : State) :
    s.mcycle.ret = (s.mcycles 4).setCpu
      { s.cpu with sp := s.cpu.sp + 2, pc := wordOf ((s.mcycles 3).read (s.cpu.sp + 1)) ((s.mcycles 2).read s.cpu.sp) } := by
  rw [State.ret_eq, State.mcycle_cpu]
  rfl

/-- Settles O31: calls and returns written out, and the conditional forms by the flag their condition names. -/
theorem callsAndReturns : Obligations.CallsAndReturns := by
  rintro s w nn _ _ hw rfl rfl
  have hcall := fun target => s.call_eq_write w target hw
  refine ⟨congrArg Host.Outcome.next (hcall nn), ?rst, congrArg Host.Outcome.next s.ret_eq,
    congrArg Host.Outcome.next s.returnFromInterrupt_eq, ?cond⟩
  case rst => exact fun t => (exec_family_rst t s).trans (congrArg Host.Outcome.next (hcall _))
  case cond =>
    intro cc b hb
    rw [exec_family_callCond, exec_family_retCond, State.callIf, State.retIf, condHolds_eq cc s.cpu.f hb, hcall, State.ret_mcycle_eq]
    exact ⟨rfl, rfl⟩

end Sys2Proof.Machine
end

section
/-! SUPPORT and PROOF of O32. HALT's test read off the bits of IE and IF, the undefined rows as their shared operation, and the row that a second
byte after 0xCB selects. -/

namespace Sys2Proof.Machine

/-! HALT (46_cpu_control R291). -/

/-- A source is pending when its bit is set in both IE and IF (60_exceptions R323). -/
theorem Interrupts.getLsbD_pend (i : Interrupts) (k : Source) :
    i.pend.getLsbD k.index = (i.ie.getLsbD k.index && i.flags.getLsbD k.index) := by
  cases k <;> simp [Interrupts.pend, Source.index]

/-- The five sources are the five bits of IE and IF (60_exceptions R320). -/
theorem Source.exists_index {n : Nat} (h : n < 5) : ∃ k : Source, k.index = n :=
  match n, h with
  | 0, _ => ⟨.vblank, rfl⟩
  | 1, _ => ⟨.stat, rfl⟩
  | 2, _ => ⟨.timer, rfl⟩
  | 3, _ => ⟨.serial, rfl⟩
  | 4, _ => ⟨.joypad, rfl⟩

theorem Interrupts.pend_ne_zero_iff (i : Interrupts) :
    i.pend ≠ 0 ↔ ∃ k : Source, i.ie.getLsbD k.index = true ∧ i.flags.getLsbD k.index = true := by
  simp only [← Bool.and_eq_true, ← i.getLsbD_pend]
  constructor
  · contrapose!
    intro hnone
    refine BitVec.eq_of_getLsbD_eq fun n hn => ?_
    obtain ⟨k, rfl⟩ := Source.exists_index hn
    simpa using hnone k
  · rintro ⟨k, hk⟩ hzero
    simp [hzero] at hk

/-- All that HALT does, its condition's value given. -/
theorem State.halt_eq_ite {s : State} {bug : Bool}
    (hbug : bug = true ↔ s.cpu.ime = false ∧ ∃ k : Source, s.ints.ie.getLsbD k.index = true ∧ s.ints.flags.getLsbD k.index = true) :
    s.halt = s.setCpu (if bug then { s.cpu with haltBug := true } else { s.cpu with halted := true }) := by
  rw [← Interrupts.pend_ne_zero_iff] at hbug
  rw [State.halt, ← apply_ite s.setCpu]
  simp only [hbug]

/-! The rows that a parameter may refuse (46_cpu_control R292, R295). -/

theorem exec_stop_asSpecified {s : State} (h : s.cfg.stopPolicy = .asSpecified) (x : Byte) : exec (.stop x) s = .next s.stopClock := by
  change exec_stop x s = _
  rw [exec_stop, h]

theorem exec_stop_refuse {s : State} (h : s.cfg.stopPolicy = .refuse) (x : Byte) : exec (.stop x) s = .refused .stopOpcode := by
  change exec_stop x s = _
  rw [exec_stop, h]

theorem exec_undefined (s : State) {p : Byte × Instr} (hp : p ∈ Instr.undefined) : exec p.2 s = s.undefinedOpcode p.1 := by
  fin_cases hp <;> rfl

theorem State.undefinedOpcode_nop {s : State} (h : s.cfg.undefPolicy = .nop) (op : Byte) : s.undefinedOpcode op = .next s := by
  rw [State.undefinedOpcode, h]

theorem State.undefinedOpcode_refuse {s : State} (h : s.cfg.undefPolicy = .refuse) (op : Byte) :
    s.undefinedOpcode op = .refused (.undefinedOpcode op) := by
  rw [State.undefinedOpcode, h]

/-! The byte 0xCB (30_encoding R125, R133). -/

theorem decode_prefixed (op2 : Byte) : decode [0xCB, op2] = .ok (lookupCb op2, []) :=
  decode_of_decodes (.prefixed op2 [] rfl)

/-- Every prefixed row is the one operation on its target. -/
theorem exec_lookupCb (op2 : Byte) (s : State) : exec (lookupCb op2) s = .next (s.prefixed op2) := by
  rw [lookupCb, State.prefixed]
  generalize fieldX op2 = x
  revert x
  refine bits2_cases ?shift ?bit ?res ?set
  case shift => exact exec_family_shift _ _ s
  case bit => exact exec_family_bit _ _ s
  case res => exact exec_family_res _ _ s
  case set => exact exec_family_set _ _ s

/-- Settles O32: HALT by the bits of IE and IF, the refusals by their parameters, and 0xCB by the row its second byte selects. -/
theorem cpuControl : Obligations.CpuControl := by
  intro s
  refine ⟨rfl, rfl, rfl, ?halt, ?stop, ?undefined, ?cb⟩
  case halt => exact fun bug hbug => congrArg Host.Outcome.next (State.halt_eq_ite hbug)
  case stop => exact fun x => ⟨fun h => exec_stop_asSpecified h x, fun h => exec_stop_refuse h x⟩
  case undefined =>
    intro p hp
    rw [exec_undefined s hp]
    exact ⟨fun h => State.undefinedOpcode_nop h p.1, fun h => State.undefinedOpcode_refuse h p.1⟩
  case cb =>
    have hfetch : s.fetch8 = (s.mcycle.read s.cpu.pc, s.mcycle.setCpu { s.cpu with pc := s.cpu.pc + 1 }) := s.fetch8_setCpu s.cpu
    refine ⟨lookupCb (s.mcycle.read s.cpu.pc), _, decode_prefixed _, rfl, ?_⟩
    rw [hfetch]
    exact exec_lookupCb _ _

end Sys2Proof.Machine
end

section
/-! SUPPORT and PROOF of O38. The pending source as the lowest bit set in both IE and IF, and the one bit that a request and an acknowledge touch. -/

namespace Sys2Proof.Machine

theorem Source.index_lt (k : Source) : k.index < 5 := by cases k <;> decide

theorem Source.index_inj {j k : Source} : j.index = k.index ↔ j = k := by cases j <;> cases k <;> decide

theorem Interrupts.pending_eq_some_iff (i : Interrupts) (k : Source) :
    i.pending = some k ↔ i.pend.getLsbD k.index = true ∧ ∀ j < k.index, i.pend.getLsbD j = false := by
  unfold Interrupts.pending
  generalize i.pend = p
  revert p
  cases k <;> decide

theorem Interrupts.getLsbD_pend_lt (i : Interrupts) {j : Nat} (hj : j < 5) :
    i.pend.getLsbD j = (i.ie.getLsbD j && i.flags.getLsbD j) := by
  obtain ⟨k, rfl⟩ := Source.exists_index hj
  exact i.getLsbD_pend k

theorem getLsbD_setFlag (flags : BitVec 5) (k : Source) (j : Nat) :
    (setFlag flags k).getLsbD j = (decide (j = k.index) || flags.getLsbD j) := by
  have hk := k.index_lt
  rw [setFlag, BitVec.getLsbD_or, BitVec.getLsbD_twoPow, Bool.or_comm]
  simp [hk, eq_comm]

theorem getLsbD_clearFlag (flags : BitVec 5) (k : Source) {j : Nat} (hj : j < 5) :
    (clearFlag flags k).getLsbD j = (!decide (j = k.index) && flags.getLsbD j) := by
  have hk := k.index_lt
  rw [clearFlag, BitVec.getLsbD_and, BitVec.getLsbD_not, BitVec.getLsbD_twoPow, Bool.and_comm]
  simp [hk, hj, eq_comm]

/-- Settles O38: the bits of `pend` are those of IE and IF together. -/
theorem pendingRequestAcknowledge : Obligations.PendingRequestAcknowledge := by
  intro c k
  refine ⟨?some, ?none, ⟨rfl, rfl⟩, fun j hj => ⟨getLsbD_setFlag _ _ _, getLsbD_clearFlag _ _ hj⟩⟩
  case some =>
    rw [c.pending_eq_some_iff k, c.getLsbD_pend, Bool.and_eq_true]
    refine and_congr_right fun _ => forall₂_congr fun j hj => ?_
    rw [c.getLsbD_pend_lt (hj.trans k.index_lt), ← Bool.and_eq_true, Bool.not_eq_true]
  case none =>
    rw [c.pending_eq_none_iff, ← not_ne_iff, c.pend_ne_zero_iff]
    push Not
    constructor
    · intro h j hj
      obtain ⟨k, rfl⟩ := Source.exists_index hj
      exact h k
    · exact fun h k => h k.index k.index_lt

end Sys2Proof.Machine
end

section
/-! SUPPORT and PROOFS of O5, O7 and O37. A step's branches written out under `ACCESS_TIMING = instruction`, and what a dispatch leaves. -/

namespace Sys2Proof

/-- Decoding leaves no more bytes than it was given after the opcode. -/
theorem Decodes.length_le {op : Byte} {tail rest : List Byte} {i : Instr} (h : Decodes op tail i rest) : rest.length ≤ tail.length := by
  cases h with
  | one _ _ => exact Nat.le_refl _
  | two _ _ _ | stop _ _ _ | prefixed _ _ _ => exact Nat.le_succ _
  | three _ _ _ _ => exact Nat.le_add_right _ 2
  | lonePrefix _ => exact Nat.le_refl _

end Sys2Proof

namespace Sys2Proof.Machine

theorem State.finish_instruction (s : State) (h : s.cfg.accessTiming = .instruction) : s.finish = s.advance s.cycles := by
  rw [State.finish, h]

/-- Settles O5: under `ACCESS_TIMING = instruction` the bytes are read at once, and each but STOP's second counts 4 T-cycles. -/
theorem stepRunsTheDecodedInstruction : Obligations.StepRunsTheDecodedInstruction := by
  intro s i rest htiming hx hbug hdecode
  have hawake : s.awake.cfg.accessTiming = .instruction := htiming
  have hread : ∀ (n : Nat) (a : Word), (s.awake.mcycles n).read a = s.read a := fun n a => by
    rw [s.awake.mcycles_instruction n hawake, State.read_cycles, State.read_awake]
  have hnext : s.cpu.pc + 1 + 1 = s.cpu.pc + 2 := by bv_omega
  have hlen : rest.length ≤ 2 := (decodes_of_decode hdecode).length_le
  have hpc : s.cpu.pc + 1 + BitVec.ofNat 16 (2 - rest.length) = s.cpu.pc + BitVec.ofNat 16 (3 - rest.length) := by
    rw [show 3 - rest.length = 1 + (2 - rest.length) by omega, BitVec.ofNat_add, ← BitVec.add_assoc]
    rfl
  have hcycles : 4 + 4 * (2 - rest.length) = 4 * (3 - rest.length) := by omega
  rw [fetchTakesItsCyclesAndTheHaltBug s i rest (s.cpu.pc + 1) hx (by simp [hbug])
    (by rw [hnext, hread, apply_ite (State.read · (s.cpu.pc + 1)), hread, State.read_awake, ite_self]; exact hdecode)]
  congr 2
  split
  · rw [hpc]
    simp [State.setCpu, State.awake, hbug]
  · rw [s.awake.mcycles_instruction _ hawake, hpc]
    simp [State.setCpu, State.awake, hbug, hcycles]

/-- A store under `ACCESS_TIMING = instruction`, the count of cycles given. -/
theorem State.store_setCycles {s : State} (h : s.cfg.accessTiming = .instruction) (n : Nat) (a : Word) (v : Byte) :
    State.store { s with cycles := n } a v = { s.write a v with cycles := n + 4 } := by
  rw [State.store_instruction { s with cycles := n } h, State.write_setCycles]

/-- A dispatch under `ACCESS_TIMING = instruction`: two writes, SP and PC, four M-cycles counted. -/
theorem State.takeInterrupt_instruction {s w : State} {k : Source} {n : Nat} (h : s.cfg.accessTiming = .instruction) (hn : s.cycles + 16 = n)
    (hw : w = (State.write { s.acknowledged k with cycles := n } (s.cpu.sp - 1) (hiByte s.cpu.pc)).write (s.cpu.sp - 2) (loByte s.cpu.pc)) :
    s.takeInterrupt k = w.setCpu { w.cpu with sp := s.cpu.sp - 2, pc := k.vector } := by
  have hack : (s.acknowledged k).cfg.accessTiming = .instruction := h
  let base := ((s.acknowledged k).write (s.cpu.sp - 1) (hiByte s.cpu.pc)).write (s.cpu.sp - 2) (loByte s.cpu.pc)
  have hcount : w = { base with cycles := n } := by
    rw [hw, State.write_setCycles (s.acknowledged k), State.write_setCycles ((s.acknowledged k).write (s.cpu.sp - 1) (hiByte s.cpu.pc))]
  have hwritten : ((s.acknowledged k).write (s.cpu.sp - 1) (hiByte s.cpu.pc)).cfg.accessTiming = .instruction := by
    rwa [State.write_cfg]
  have hbase : base.cfg.accessTiming = .instruction := by rwa [State.write_cfg, State.write_cfg]
  have hstores : ((s.acknowledged k).mcycle.store (s.cpu.sp - 1) (hiByte s.cpu.pc)).store (s.cpu.sp - 2) (loByte s.cpu.pc) =
      { base with cycles := s.cycles + 12 } := by
    rw [State.mcycle_instruction _ hack, State.store_setCycles hack, State.store_setCycles hwritten]
    rfl
  rw [State.takeInterrupt_eq s (s.acknowledged k) _ k rfl hstores.symm,
    State.mcycle_instruction { base with cycles := s.cycles + 12 } hbase, hcount, ← hn]
  rfl

theorem State.takeInterrupt_cfg (s : State) (k : Source) : (s.takeInterrupt k).cfg = s.cfg := (s.takeInterrupt_effects k).cfg_eq

theorem State.takeInterrupt_cycles (s : State) (k : Source) : (s.takeInterrupt k).cycles = s.cycles + 16 := by
  rw [State.takeInterrupt_eq s (s.acknowledged k) _ k rfl rfl]
  simp [State.acknowledged]

/-- Two continuations that agree on the next state give the same answer. -/
theorem Answer.andThen_congr {o : Answer} {g g' : State → State} (h : ∀ u, o = .next u → g u = g' u) : o.andThen g = o.andThen g' := by
  cases o with
  | next u => exact congrArg Host.Outcome.next (h u rfl)
  | fault r => rfl
  | refused r => rfl

theorem State.awake_fetchInstr_cfg (s : State) : s.awake.fetchInstr.2.cfg = s.cfg := (State.Effects.fetchInstr s.awake).cfg_eq

/-- Settles O7: the four branches of a step, the dispatch and the advance written out. -/
theorem stepFollowsItsOrder : Obligations.StepFollowsItsOrder := by
  intro s htiming
  refine ⟨fun hs => step_stopped hs, fun hs hh hp => ?idle, fun hs hi hp => ?dispatch, fun hx => ?executes⟩
  case idle => exact (step_idle hs hh hp).trans (congrArg _ (s.beginStep.finish_instruction htiming))
  case dispatch =>
    obtain ⟨k, hk⟩ := Interrupts.exists_pending hp
    obtain ⟨hset, hlow⟩ := (s.ints.pending_eq_some_iff k).mp hk
    refine ⟨k, hset, hlow, _, rfl, ?_⟩
    have hcfg : (s.roused.takeInterrupt k).cfg.accessTiming = .instruction := by
      rw [State.takeInterrupt_cfg]
      exact htiming
    rw [step_dispatch hs hi hk, State.finish_instruction _ hcfg, State.takeInterrupt_cycles,
      State.takeInterrupt_instruction (s := s.roused) (n := 20) htiming rfl rfl]
    rfl
  case executes =>
    rw [step_executes hx]
    refine Answer.andThen_congr fun u hu => u.finish_instruction ?_
    rw [(exec_effects _ hu).cfg_eq, s.awake_fetchInstr_cfg, htiming]

/-- A byte of RAM, which no device's time changes, after the end of a step. -/
theorem State.read_finish_ram (s : State) {a : Word} (h : InRam a) : s.finish.read a = s.read a := by
  obtain h | h := h
  · simp [State.read_wram _ h]
  · simp [State.read_hram _ h]

/-- A dispatch on a stack in RAM leaves PC there, the high byte above the low byte (60_exceptions R326). -/
theorem State.read_takeInterrupt_ram (s : State) (k : Source) (hhi : InRam (s.cpu.sp - 1)) (hlo : InRam (s.cpu.sp - 2)) :
    (s.takeInterrupt k).read (s.cpu.sp - 1) = hiByte s.cpu.pc ∧ (s.takeInterrupt k).read (s.cpu.sp - 2) = loByte s.cpu.pc := by
  have hsp : (s.acknowledged k).mcycle.cpu.sp = s.cpu.sp := by rw [State.mcycle_cpu]; rfl
  have hpushed := (s.acknowledged k).mcycle.read_push16_ram s.cpu.pc (by rwa [hsp]) (by rwa [hsp])
  rw [hsp] at hpushed
  have hafter : ∀ {a : Word}, InRam a → (s.takeInterrupt k).read a = ((s.acknowledged k).mcycle.push16 s.cpu.pc).read a :=
    fun ha => (State.read_setCpu _ _ _).trans (State.read_mcycle_ram _ ha)
  rwa [hafter hhi, hafter hlo]

/-- Settles O37: the dispatch of the lowest pending source, its cost, its CPU and its stack. -/
theorem interruptEntry : Obligations.InterruptEntry := by
  intro s t k hs hi hset hlow h
  have hk : s.ints.pending = some k := (s.ints.pending_eq_some_iff k).mpr ⟨hset, hlow⟩
  obtain rfl := Host.Outcome.next.inj ((step_dispatch hs hi hk).symm.trans h)
  refine ⟨?cycles, ?cpu, fun hhi hlo => ?stack⟩
  case cycles => rw [State.finish_cycles, State.takeInterrupt_cycles]; rfl
  case cpu => rw [State.finish_cpu, State.takeInterrupt_cpu (s := s.roused) hs]; rfl
  case stack =>
    obtain ⟨hreadHi, hreadLo⟩ := s.roused.read_takeInterrupt_ram k hhi hlo
    rw [State.read_finish_ram _ hhi, State.read_finish_ram _ hlo]
    refine ⟨hreadHi.trans ?_, hreadLo.trans ?_⟩
    · exact BitVec.eq_of_toNat_eq (by rw [toNat_hiByte, BitVec.toNat_ofNat]; exact (Nat.mod_eq_of_lt (by omega)).symm)
    · exact BitVec.eq_of_toNat_eq (by rw [toNat_loByte, BitVec.toNat_ofNat]; rfl)

end Sys2Proof.Machine
end

section
/-! SUPPORT and PROOF of O10. Every instruction but STOP and the undefined rows answers a next state. -/

namespace Sys2Proof.Machine

/-- An instruction completes, unless a parameter may refuse it: an undefined row (46_cpu_control R295) or STOP (R292). -/
theorem exec_completes (i : Instr) (s : State) (hundef : ∀ p ∈ Instr.undefined, i ≠ p.2) (hstop : ∀ x, i ≠ .stop x) :
    ∃ t, exec i s = .next t := by
  have undefined : ∀ {j : Instr}, j ∈ Instr.undefined.map Prod.snd → i = j → ∃ t, exec j s = .next t := fun hj e => by
    obtain ⟨p, hp, rfl⟩ := List.mem_map.mp hj
    exact absurd e (hundef p hp)
  induction i using Instr.family_cases with
  | ldRegReg dst src => exact ⟨_, exec_family_ldRegReg dst src s⟩
  | ldRegImm r n => exact ⟨_, exec_family_ldRegImm r n s⟩
  | ldRegAtHL r => exact ⟨_, exec_family_ldRegAtHL r s⟩
  | ldAtHLReg r => exact ⟨_, exec_family_ldAtHLReg r s⟩
  | alu op src => exact ⟨_, exec_family_alu op src s⟩
  | aluImm op n => exact ⟨_, exec_family_aluImm op n s⟩
  | incOperand o => exact ⟨_, exec_family_incOperand o s⟩
  | decOperand o => exact ⟨_, exec_family_decOperand o s⟩
  | ldPairImm p nn => exact ⟨_, exec_family_ldPairImm p nn s⟩
  | addHL p => exact ⟨_, exec_family_addHL p s⟩
  | incPair p => exact ⟨_, exec_family_incPair p s⟩
  | decPair p => exact ⟨_, exec_family_decPair p s⟩
  | push p => exact ⟨_, exec_family_push p s⟩
  | pop p => exact ⟨_, exec_family_pop p s⟩
  | jpCond cc nn => exact ⟨_, exec_family_jpCond cc nn s⟩
  | jrCond cc e => exact ⟨_, exec_family_jrCond cc e s⟩
  | callCond cc nn => exact ⟨_, exec_family_callCond cc nn s⟩
  | retCond cc => exact ⟨_, exec_family_retCond cc s⟩
  | rst k => exact ⟨_, exec_family_rst k s⟩
  | shift op o => exact ⟨_, exec_family_shift op o s⟩
  | bit b o => exact ⟨_, exec_family_bit b o s⟩
  | res b o => exact ⟨_, exec_family_res b o s⟩
  | set b o => exact ⟨_, exec_family_set b o s⟩
  | h_stop x => exact absurd rfl (hstop x)
  | h_undef_d3 | h_undef_db | h_undef_dd | h_undef_e3 | h_undef_e4 | h_undef_eb | h_undef_ec | h_undef_ed | h_undef_f4 | h_undef_fc |
    h_undef_fd => exact undefined (by decide) rfl
  | _ => exact ⟨_, rfl⟩

/-- An instruction is refused exactly where its parameter says so. -/
theorem exec_refused_iff (i : Instr) (s : State) (r : Refusal) :
    exec i s = .refused r ↔
      (∃ p ∈ Instr.undefined, i = p.2 ∧ s.cfg.undefPolicy = .refuse ∧ r = .undefinedOpcode p.1) ∨
      (∃ x, i = .stop x ∧ s.cfg.stopPolicy = .refuse ∧ r = .stopOpcode) := by
  constructor
  · intro h
    by_cases hundef : ∃ p ∈ Instr.undefined, i = p.2
    · obtain ⟨p, hp, rfl⟩ := hundef
      rw [exec_undefined s hp] at h
      cases hpol : s.cfg.undefPolicy with
      | nop => cases (State.undefinedOpcode_nop hpol p.1).symm.trans h
      | refuse => exact .inl ⟨p, hp, rfl, rfl, (Host.Outcome.refused.inj ((State.undefinedOpcode_refuse hpol p.1).symm.trans h)).symm⟩
    by_cases hstop : ∃ x, i = .stop x
    · obtain ⟨x, rfl⟩ := hstop
      cases hpol : s.cfg.stopPolicy with
      | asSpecified => cases (exec_stop_asSpecified hpol x).symm.trans h
      | refuse => exact .inr ⟨x, rfl, rfl, (Host.Outcome.refused.inj ((exec_stop_refuse hpol x).symm.trans h)).symm⟩
    push Not at hundef hstop
    obtain ⟨t, ht⟩ := exec_completes i s hundef hstop
    cases ht.symm.trans h
  · rintro (⟨p, hp, rfl, hpol, rfl⟩ | ⟨x, rfl, hpol, rfl⟩)
    · rw [exec_undefined s hp, State.undefinedOpcode_refuse hpol]
    · exact exec_stop_refuse hpol x

theorem Answer.andThen_eq_refused_iff {o : Answer} {g : State → State} {r : Refusal} : o.andThen g = .refused r ↔ o = .refused r := by
  cases o <;> simp [Answer.andThen]

/-- An undefined row is executed exactly when its opcode stands at PC. -/
theorem State.nextInstr_eq_undefined_iff (s : State) {p : Byte × Instr} (hp : p ∈ Instr.undefined) :
    s.nextInstr = p.2 ↔ s.read s.cpu.pc = p.1 := by
  constructor
  · exact fun h => State.read_pc_of_nextInstr h (by fin_cases hp <;> rfl)
  · intro hop
    rw [State.nextInstr, s.awake_fetchInstr hop]
    fin_cases hp <;> rfl

theorem undefined_opcodes : Instr.undefined.map Prod.fst = [0xD3, 0xDB, 0xDD, 0xE3, 0xE4, 0xEB, 0xEC, 0xED, 0xF4, 0xFC, 0xFD] := rfl

/-- A step that executes is refused exactly as the instruction at PC is. -/
theorem step_refused_iff_of_executes {s : State} (hx : s.Executes) (r : Refusal) :
    step s = .refused r ↔
      (∃ p ∈ Instr.undefined, s.read s.cpu.pc = p.1 ∧ s.cfg.undefPolicy = .refuse ∧ r = .undefinedOpcode p.1) ∨
      (s.read s.cpu.pc = 0x10 ∧ s.cfg.stopPolicy = .refuse ∧ r = .stopOpcode) := by
  rw [step_executes hx, Answer.andThen_eq_refused_iff, exec_refused_iff, s.awake_fetchInstr_cfg, ← s.nextInstr_stop_iff, exists_and_right]
  refine or_congr_left (exists_congr fun p => and_congr_right fun hp => ?_)
  rw [s.nextInstr_eq_undefined_iff hp]

/-- Only a step that executes an instruction can be refused. -/
theorem executes_of_step_refused {s : State} {r : Refusal} (h : step s = .refused r) : s.Executes := by
  rcases s.step_branches with hs | ⟨hs, hh, hp⟩ | ⟨hs, hi, hp⟩ | hx
  · cases (step_stopped hs).symm.trans h
  · cases (step_idle hs hh hp).symm.trans h
  · obtain ⟨k, hk⟩ := Interrupts.exists_pending hp
    cases (step_dispatch hs hi hk).symm.trans h
  · exact hx

/-- Settles O10: there is no fault, and a refusal is that of the instruction at PC. -/
theorem onlyThePoliciesRefuse : Obligations.OnlyThePoliciesRefuse := by
  intro s
  refine ⟨fun f => (nomatch f), fun r => ⟨fun h => ?refused, ?refuses⟩⟩
  case refused =>
    have hx := executes_of_step_refused h
    refine ⟨hx, ((step_refused_iff_of_executes hx r).mp h).imp ?_ ?_⟩
    · rintro ⟨p, hp, hop, hpol, rfl⟩
      exact ⟨p.1, rfl, hpol, hop, undefined_opcodes ▸ List.mem_map_of_mem hp⟩
    · rintro ⟨hop, hpol, rfl⟩
      exact ⟨rfl, hpol, hop⟩
  case refuses =>
    rintro ⟨hx, h⟩
    refine (step_refused_iff_of_executes hx r).mpr (h.imp ?_ ?_)
    · rintro ⟨op, rfl, hpol, hop, hmem⟩
      obtain ⟨p, hp, rfl⟩ := List.mem_map.mp (undefined_opcodes ▸ hmem)
      exact ⟨p, hp, hop, hpol, rfl⟩
    · rintro ⟨rfl, hpol, hop⟩
      exact ⟨hop, hpol, rfl⟩

end Sys2Proof.Machine
end

section
/-! SUPPORT and PROOFS of O8 and O9. The T-cycles an instruction's fetch takes, those its execution takes, and their sum as the columns of the opcode
table. -/

namespace Sys2Proof.Machine

/-! The fetch. -/

/-- The T-cycles of an instruction's fetch: 4 for each byte, but none for the byte after STOP (70_reset R520). -/
def fetchCycles (i : Instr) : Nat := if (encode i).head? = some 0x10 then 4 else 4 * (encode i).length

theorem fetchCycles_of_encode {i : Instr} {op : Byte} {tail : List Byte} (h : encode i = op :: tail) (hop : op ≠ 0x10) :
    fetchCycles i = 4 * (tail.length + 1) := by
  rw [fetchCycles, h, if_neg (by simpa using hop), List.length_cons]

@[simp] theorem State.fetch8_cycles (s : State) : s.fetch8.2.cycles = s.cycles + 4 := rfl

/-- Fetching the operands of an opcode takes what is left of the fetch after the opcode's own M-cycle. -/
theorem State.fetchOperands_cycles (s : State) (op : Byte) :
    (s.fetchOperands (lookup op)).2.cycles + 4 = s.cycles + fetchCycles (s.fetchOperands (lookup op)).1 := by
  cases he : lookup op with
  | stop =>
    rfl
  | one i =>
    have hlen := fetchCycles_of_encode (encode_of_lookup_one he) (ne_0x10_of_lookup he nofun)
    simp only [State.fetchOperands, hlen, List.length_nil]
  | two f =>
    have hlen := fetchCycles_of_encode (encode_of_lookup_two he s.fetch8.1) (ne_0x10_of_lookup he nofun)
    simp only [State.fetchOperands, hlen, List.length_cons, List.length_nil, State.fetch8_cycles]
  | three f =>
    have hlen := fetchCycles_of_encode (encode_of_lookup_three he s.fetch16.1) (ne_0x10_of_lookup he nofun)
    show s.cycles + 4 + 4 + 4 = s.cycles + fetchCycles (f s.fetch16.1)
    rw [hlen]
    rfl
  | prefixCb =>
    have hlen := fetchCycles_of_encode (encode_lookupCb s.fetch8.1) (by decide)
    simp only [State.fetchOperands, hlen, List.length_cons, List.length_nil, State.fetch8_cycles]

theorem State.awake_fetchInstr_cycles (s : State) : s.awake.fetchInstr.2.cycles = fetchCycles s.nextInstr := by
  have h := s.awake.fetchOpcode.2.fetchOperands_cycles s.awake.fetchOpcode.1
  have hbegin : s.awake.fetchOpcode.2.cycles = 4 := rfl
  rw [hbegin] at h
  rw [State.nextInstr, State.fetchInstr]
  omega

/-! The execution: the T-cycles of each shared operation. -/

/-- The T-cycles of one access of an operand (70_reset R520). -/
def operandCycles : Operand8 → Nat
  | .reg _ => 0
  | .atHL => 4

theorem State.readOperand_cycles (s : State) (o : Operand8) : (s.readOperand o).2.cycles = s.cycles + operandCycles o := by
  cases o <;> rfl

theorem State.writeOperand_cycles (s : State) (o : Operand8) (v : Byte) : (s.writeOperand o v).cycles = s.cycles + operandCycles o := by
  cases o with
  | reg r => rfl
  | atHL => exact s.store_cycles _ _

theorem State.modify_cycles (s : State) (o : Operand8) (g : Byte → Byte → Flagged) :
    (s.modify o g).cycles = s.cycles + 2 * operandCycles o := by
  rw [State.modify, State.writeOperand_cycles, State.setF_eq, State.setCpu_cycles, State.readOperand_cycles, two_mul, add_assoc]

theorem State.modifyBits_cycles (s : State) (o : Operand8) (g : Byte → Byte) :
    (s.modifyBits o g).cycles = s.cycles + 2 * operandCycles o := by
  rw [State.modifyBits, State.writeOperand_cycles, State.readOperand_cycles, two_mul, add_assoc]

theorem State.push16_cycles (s : State) (v : Word) : (s.push16 v).cycles = s.cycles + 8 := by
  rw [State.push16_eq, State.setSp_eq, State.setCpu_cycles, State.store_cycles, State.store_cycles]

theorem State.call_cycles (s : State) (a : Word) : (s.call a).cycles = s.cycles + 12 := by
  rw [State.call, State.setPc_eq, State.setCpu_cycles, State.push16_cycles, State.mcycle_cycles]

theorem State.ret_cycles (s : State) : s.ret.cycles = s.cycles + 12 := rfl

theorem State.storeSp_cycles (s : State) (nn : Word) : (s.storeSp nn).cycles = s.cycles + 8 := by
  rw [State.storeSp, State.store_cycles, State.store_cycles]

theorem State.jumpIf_cycles (s : State) (cc : Cond) (a : Word) :
    (s.jumpIf cc a).cycles = s.cycles + if condHolds cc s.cpu.f then 4 else 0 := by
  rw [State.jumpIf]; split <;> rfl

theorem State.callIf_cycles (s : State) (cc : Cond) (a : Word) :
    (s.callIf cc a).cycles = s.cycles + if condHolds cc s.cpu.f then 12 else 0 := by
  rw [State.callIf]
  split
  · exact s.call_cycles a
  · rfl

theorem State.retIf_cycles (s : State) (cc : Cond) : (s.retIf cc).cycles = s.cycles + if condHolds cc s.cpu.f then 16 else 4 := by
  rw [State.retIf]; split <;> rfl

theorem State.halt_cycles (s : State) : s.halt.cycles = s.cycles := by rw [State.halt_eq]; rfl

/-! The column of each family with an operand or a condition: what is left of it after the fetch. -/

theorem costOf_alu (op : AluOp) (o : Operand8) (f : Byte) : costOf (.alu op o) f = fetchCycles (.alu op o) + operandCycles o := by
  cases op <;> rcases o with (_ | _ | _ | _ | _ | _ | _) | _ <;> rfl

theorem costOf_incOperand (o : Operand8) (f : Byte) :
    costOf (.incOperand o) f = fetchCycles (.incOperand o) + 2 * operandCycles o := by
  rcases o with (_ | _ | _ | _ | _ | _ | _) | _ <;> rfl

theorem costOf_decOperand (o : Operand8) (f : Byte) :
    costOf (.decOperand o) f = fetchCycles (.decOperand o) + 2 * operandCycles o := by
  rcases o with (_ | _ | _ | _ | _ | _ | _) | _ <;> rfl

theorem costOf_shift (op : ShiftOp) (o : Operand8) (f : Byte) :
    costOf (.shift op o) f = fetchCycles (.shift op o) + 2 * operandCycles o := by
  cases op <;> rcases o with (_ | _ | _ | _ | _ | _ | _) | _ <;> rfl

theorem costOf_bit (b : BitVec 3) (o : Operand8) (f : Byte) : costOf (.bit b o) f = fetchCycles (.bit b o) + operandCycles o := by
  revert b; refine bits3_cases ?_ ?_ ?_ ?_ ?_ ?_ ?_ ?_ <;> rcases o with (_ | _ | _ | _ | _ | _ | _) | _ <;> rfl

theorem costOf_res (b : BitVec 3) (o : Operand8) (f : Byte) : costOf (.res b o) f = fetchCycles (.res b o) + 2 * operandCycles o := by
  revert b; refine bits3_cases ?_ ?_ ?_ ?_ ?_ ?_ ?_ ?_ <;> rcases o with (_ | _ | _ | _ | _ | _ | _) | _ <;> rfl

theorem costOf_set (b : BitVec 3) (o : Operand8) (f : Byte) : costOf (.set b o) f = fetchCycles (.set b o) + 2 * operandCycles o := by
  revert b; refine bits3_cases ?_ ?_ ?_ ?_ ?_ ?_ ?_ ?_ <;> rcases o with (_ | _ | _ | _ | _ | _ | _) | _ <;> rfl

theorem costOf_rst (k : BitVec 3) (f : Byte) : costOf (.rst k) f = fetchCycles (.rst k) + 12 := by
  revert k; refine bits3_cases ?_ ?_ ?_ ?_ ?_ ?_ ?_ ?_ <;> rfl

theorem costOf_jpCond (cc : Cond) (nn : Word) (f : Byte) :
    costOf (.jpCond cc nn) f = fetchCycles (.jpCond cc nn) + if condHolds cc f then 4 else 0 := by
  rw [add_ite]
  cases cc <;> rfl

theorem costOf_jrCond (cc : Cond) (e : Byte) (f : Byte) :
    costOf (.jrCond cc e) f = fetchCycles (.jrCond cc e) + if condHolds cc f then 4 else 0 := by
  rw [add_ite]
  cases cc <;> rfl

theorem costOf_callCond (cc : Cond) (nn : Word) (f : Byte) :
    costOf (.callCond cc nn) f = fetchCycles (.callCond cc nn) + if condHolds cc f then 12 else 0 := by
  rw [add_ite]
  cases cc <;> rfl

theorem costOf_retCond (cc : Cond) (f : Byte) :
    costOf (.retCond cc) f = fetchCycles (.retCond cc) + if condHolds cc f then 16 else 4 := by
  rw [add_ite]
  cases cc <;> rfl

/-! The execution of every instruction. -/

/-- Every instruction takes the cycles of its row after its fetch. -/
theorem exec_cycles (i : Instr) {s t : State} (hwf : i.wellFormed = true) (hx : exec i s = .next t) :
    t.cycles + fetchCycles i = s.cycles + costOf i s.cpu.f := by
  have key : ∀ {u : State} {n : Nat}, exec i s = .next u → costOf i s.cpu.f = fetchCycles i + n → u.cycles = s.cycles + n →
      t.cycles + fetchCycles i = s.cycles + costOf i s.cpu.f := fun hu hcost hn => by
    obtain rfl := exec_next_unique hu hx
    omega
  have undefined : ∀ {op : Byte}, s.undefinedOpcode op = .next t → costOf i s.cpu.f = fetchCycles i →
      t.cycles + fetchCycles i = s.cycles + costOf i s.cpu.f := fun hu hcost => by
    rw [State.undefinedOpcode_next hu, hcost]
  induction i using Instr.family_cases with
  | ldRegReg dst src => exact key (n := 0) (exec_family_ldRegReg dst src s) (by cases dst <;> cases src <;> rfl) rfl
  | ldRegImm r n => exact key (n := 0) (exec_family_ldRegImm r n s) (by cases r <;> rfl) rfl
  | ldRegAtHL r => exact key (exec_family_ldRegAtHL r s) (by cases r <;> rfl) rfl
  | ldAtHLReg r => exact key (exec_family_ldAtHLReg r s) (by cases r <;> rfl) (s.store_cycles _ _)
  | alu op o => exact key (exec_family_alu op o s) (costOf_alu op o _) (s.readOperand_cycles o)
  | aluImm op n => exact key (n := 0) (exec_family_aluImm op n s) (by cases op <;> rfl) rfl
  | incOperand o => exact key (exec_family_incOperand o s) (costOf_incOperand o _) (s.modify_cycles o _)
  | decOperand o => exact key (exec_family_decOperand o s) (costOf_decOperand o _) (s.modify_cycles o _)
  | ldPairImm p nn => exact key (n := 0) (exec_family_ldPairImm p nn s) (by cases p <;> rfl) rfl
  | addHL p => exact key (exec_family_addHL p s) (by cases p <;> rfl) rfl
  | incPair p => exact key (exec_family_incPair p s) (by cases p <;> rfl) rfl
  | decPair p => exact key (exec_family_decPair p s) (by cases p <;> rfl) rfl
  | push p => exact key (n := 12) (exec_family_push p s) (by cases p <;> rfl) (s.mcycle.push16_cycles _)
  | pop p => exact key (n := 8) (exec_family_pop p s) (by cases p <;> rfl) rfl
  | jpCond cc nn => exact key (exec_family_jpCond cc nn s) (costOf_jpCond cc nn _) (s.jumpIf_cycles cc _)
  | jrCond cc e => exact key (exec_family_jrCond cc e s) (costOf_jrCond cc e _) (s.jumpIf_cycles cc _)
  | callCond cc nn => exact key (exec_family_callCond cc nn s) (costOf_callCond cc nn _) (s.callIf_cycles cc _)
  | retCond cc => exact key (exec_family_retCond cc s) (costOf_retCond cc _) (s.retIf_cycles cc)
  | rst k => exact key (exec_family_rst k s) (costOf_rst k _) (s.call_cycles _)
  | shift op o => exact key (exec_family_shift op o s) (costOf_shift op o _) (s.modify_cycles o _)
  | bit b o => exact key (exec_family_bit b o s) (costOf_bit b o _) (s.readOperand_cycles o)
  | res b o => exact key (exec_family_res b o s) (costOf_res b o _) (s.modifyBits_cycles o _)
  | set b o => exact key (exec_family_set b o s) (costOf_set b o _) (s.modifyBits_cycles o _)
  | h_ld_atBC_a | h_ld_atDE_a | h_ld_atNN_a nn | h_ldh_atN_a n | h_ldh_atC_a | h_ld_atHL_n n | h_ld_atHLinc_a | h_ld_atHLdec_a =>
    exact key rfl rfl (s.store_cycles _ _)
  | h_ld_a_atBC | h_ld_a_atDE | h_ld_a_atNN nn | h_ldh_a_atN n | h_ldh_a_atC | h_ld_a_atHLinc | h_ld_a_atHLdec =>
    exact key (n := 4) rfl rfl rfl
  | h_ld_sp_hl | h_ld_hl_sp_e e | h_jp_nn nn | h_jr_e e => exact key (n := 4) rfl rfl rfl
  | h_ld_atNN_sp nn => exact key rfl rfl (s.storeSp_cycles nn)
  | h_add_sp_e e => exact key (n := 8) rfl rfl rfl
  | h_nop | h_rlca | h_rrca | h_rla | h_rra | h_daa | h_cpl | h_scf | h_ccf | h_jp_hl | h_di | h_ei => exact key (n := 0) rfl rfl rfl
  | h_call_nn nn => exact key rfl rfl (s.call_cycles nn)
  | h_ret | h_reti => exact key rfl rfl s.ret_cycles
  | h_halt => exact key (n := 0) rfl rfl s.halt_cycles
  | h_stop x =>
    rw [exec_stop_next hx]
    rfl
  | h_prefixCb => exact absurd hwf (by decide)
  | h_undef_d3 | h_undef_db | h_undef_dd | h_undef_e3 | h_undef_e4 | h_undef_eb | h_undef_ec | h_undef_ed | h_undef_f4 | h_undef_fc |
    h_undef_fd => exact undefined hx rfl

/-- A cost the table can name: 4 to 24 T-cycles, a multiple of 4 (70_reset R502). -/
abbrev InStepRange (n : Nat) : Prop := 4 ≤ n ∧ n ≤ 24 ∧ n % 4 = 0

theorem cycleColumns_inStepRange {i : Instr} (hwf : i.wellFormed = true) : InStepRange (cycleColumns i).1 ∧ InStepRange (cycleColumns i).2 := by
  unfold cycleColumns
  split
  case h_2 => exact absurd hwf (by decide)
  all_goals decide

theorem costOf_inStepRange {i : Instr} (hwf : i.wellFormed = true) (f : Byte) : InStepRange (costOf i f) := by
  obtain ⟨hfirst, hsecond⟩ := cycleColumns_inStepRange hwf
  unfold costOf
  split
  · exact hfirst
  · split
    · exact hsecond
    · exact hfirst

/-! The step. -/

/-- The T-cycles of a step that executes an instruction. -/
theorem step_cycles_of_executes {s t : State} (hx : s.Executes) (h : step s = .next t) : t.cycles = costOf s.nextInstr s.cpu.f := by
  rw [step_executes hx] at h
  obtain ⟨u, hu, rfl⟩ := Answer.andThen_next h
  have hexec := exec_cycles _ s.nextInstr_wellFormed hu
  obtain ⟨p, hcpu⟩ := s.awake_fetchInstr_cpu
  have hf : s.awake.fetchInstr.2.cpu.f = s.cpu.f := by rw [hcpu]; rfl
  rw [s.awake_fetchInstr_cycles, hf] at hexec
  rw [State.finish_cycles]
  omega

/-- Settles O9: the cost of each branch of a step. -/
theorem stepCostsFollowTheTable : Obligations.StepCostsFollowTheTable := by
  intro s t h
  have hstopped : s.cpu.stopped = true → t = { s with cycles := 4 } := fun hs => Host.Outcome.next.inj (h.symm.trans (step_stopped hs))
  rcases s.step_branches with hs | ⟨hs, hh, hp⟩ | ⟨hs, hi, hp⟩ | hx
  · obtain rfl := hstopped hs
    exact ⟨Nat.mod_self 4, hstopped, (if_pos hs).symm⟩
  · obtain rfl := Host.Outcome.next.inj ((step_idle hs hh hp).symm.trans h)
    have hcost : s.beginStep.finish.cycles = 4 := State.finish_cycles _
    exact ⟨by rw [hcost], hstopped, by rw [hcost, if_neg (by simp [hs]), if_pos ⟨hh, hp⟩]⟩
  · obtain ⟨k, hk⟩ := Interrupts.exists_pending hp
    obtain rfl := Host.Outcome.next.inj ((step_dispatch hs hi hk).symm.trans h)
    have hcost : (s.roused.takeInterrupt k).finish.cycles = 20 := by rw [State.finish_cycles, State.takeInterrupt_cycles]; rfl
    exact ⟨by rw [hcost], hstopped, by rw [hcost, if_neg (by simp [hs]), if_neg (fun hc => hp hc.2), if_pos ⟨hi, hp⟩]⟩
  · have hcost := step_cycles_of_executes hx h
    obtain ⟨_, _, hmod⟩ := costOf_inStepRange s.nextInstr_wellFormed s.cpu.f
    obtain ⟨hs, hh, hi⟩ := hx
    refine ⟨by rw [hcost, hmod], hstopped, ?_⟩
    rw [hcost, if_neg (by simp [hs]), if_neg (fun hc => hh hc.1 hc.2), if_neg (fun hc => hc.2 (hi hc.1))]

/-- Under the default policies no step is refused. -/
theorem exists_step_next {s : State} (hundef : s.cfg.undefPolicy = .nop) (hstop : s.cfg.stopPolicy = .asSpecified) : ∃ t, step s = .next t := by
  cases h : step s with
  | next t => exact ⟨t, rfl⟩
  | fault f => cases f
  | refused r =>
    rcases (step_refused_iff_of_executes (executes_of_step_refused h) r).mp h with ⟨_, _, _, hpol, _⟩ | ⟨_, hpol, _⟩
    · cases hundef.symm.trans hpol
    · cases hstop.symm.trans hpol

/-- Settles O8: no step is refused, and every cost is one of the table, of an idle step or of a dispatch. -/
theorem stepIsTotal : Obligations.StepIsTotal := by
  intro s hundef hstop
  obtain ⟨t, ht⟩ := exists_step_next hundef hstop
  obtain ⟨_, _, hcost⟩ := stepCostsFollowTheTable s t ht
  have hrange : InStepRange t.cycles := by
    rw [hcost]
    split
    · decide
    split
    · decide
    split
    · decide
    · exact costOf_inStepRange s.nextInstr_wellFormed _
  exact ⟨t, ht, hrange⟩

end Sys2Proof.Machine
end

section
/-! SUPPORT and PROOF of O35. An instruction that writes nothing to the bus is M-cycles and an update of the CPU. -/

namespace Sys2Proof.Machine

theorem State.mcycles_succ' (n : Nat) (s : State) : s.mcycles (n + 1) = (s.mcycles n).mcycle := by
  induction n generalizing s with
  | zero => rfl
  | succ n ih => exact ih s.mcycle

/-- CPU updates and M-cycles commute, so they are some M-cycles and one CPU update. -/
theorem State.StoresWithin.eq_mcycles {s t : State} (h : State.StoresWithin [] s t) : ∃ k, t = (s.mcycles k).setCpu t.cpu := by
  induction h with
  | start => exact ⟨0, rfl⟩
  | setCpu _ c ih =>
    obtain ⟨k, hk⟩ := ih
    exact ⟨k, by rw [hk]; rfl⟩
  | mcycle _ ih =>
    obtain ⟨k, hk⟩ := ih
    refine ⟨k + 1, ?_⟩
    rw [State.mcycle_cpu, State.mcycles_succ', ← State.mcycle_setCpu, ← hk]
  | write _ ha v _ => cases ha

/-- Settles O35: no stored address leaves M-cycles and the CPU; under `ACCESS_TIMING = instruction` an M-cycle is only counted. -/
theorem frameOfTheRest : Obligations.FrameOfTheRest := by
  intro i s t hwf hx hnone
  have hwithin := exec_storesWithin i hwf hx
  rw [hnone] at hwithin
  obtain ⟨k, hk⟩ := hwithin.eq_mcycles
  refine ⟨⟨k, hk⟩, fun htiming => ⟨fun a => ?_, ?_⟩⟩
  · exact (hwithin.read_eq htiming nofun nofun).1
  · rw [s.mcycles_instruction k htiming] at hk
    rw [hk]
    rfl

end Sys2Proof.Machine
end

section
/-! SUPPORT and PROOF of O46. The devices' time as each device's own ticks. -/

namespace Sys2Proof.Machine

theorem State.advance_timer (n : Nat) (s : State) : (s.advance n).timer = Timer.tick^[n] s.timer := by
  induction n generalizing s with
  | zero => rfl
  | succ n ih => exact ih s.tick

theorem State.advance_ppu (n : Nat) (s : State) : (s.advance n).ppu = (Ppu.tick s.cfg.mode3Len)^[n] s.ppu := by
  induction n generalizing s with
  | zero => rfl
  | succ n ih => exact ih s.tick

theorem State.advance_apu (n : Nat) (s : State) : (s.advance n).apu = (Apu.tick s.cfg.samplePeriod)^[n] s.apu := by
  induction n generalizing s with
  | zero => rfl
  | succ n ih => exact ih s.tick

/-- Time changes the devices and IF, nothing else. -/
theorem State.advance_frame (n : Nat) (s : State) :
    s.advance n =
      { s with timer := (s.advance n).timer, ppu := (s.advance n).ppu, apu := (s.advance n).apu, ints := (s.advance n).ints } :=
  congrArg (fun u : State => { u with
      timer := (s.advance n).timer, ppu := (s.advance n).ppu, apu := (s.advance n).apu, ints := (s.advance n).ints })
    (advance_field (fun u : State => { u with timer := s.timer, ppu := s.ppu, apu := s.apu, ints := s.ints }) (fun _ => rfl) n s)

/-- Whether the next T-cycle requests a source (60_exceptions R322, R333; 61_ppu R380, R390). -/
def State.Requests (s : State) (k : Source) : Prop :=
  (k = .timer ∧ s.timer.reloads = true) ∨ (k = .vblank ∧ s.ppu.tickVblank = true) ∨ (k = .stat ∧ s.ppu.tickStat s.cfg.mode3Len = true)

theorem Interrupts.getLsbD_requestIf (i : Interrupts) (on : Bool) (j k : Source) :
    (i.requestIf on j).flags.getLsbD k.index = true ↔ i.flags.getLsbD k.index = true ∨ (k = j ∧ on = true) := by
  cases on with
  | false => simp [Interrupts.requestIf]
  | true => simp [Interrupts.requestIf, getLsbD_setFlag, Source.index_inj, or_comm]

theorem State.getLsbD_tick_flags (s : State) (k : Source) :
    s.tick.ints.flags.getLsbD k.index = true ↔ s.ints.flags.getLsbD k.index = true ∨ s.Requests k := by
  rw [State.tick, Interrupts.getLsbD_requestIf, Interrupts.getLsbD_requestIf, Interrupts.getLsbD_requestIf, State.Requests]
  simp only [or_assoc]

/-- A bit of IF is set after some T-cycles when it was set before or one of them requested it. -/
theorem State.getLsbD_advance_flags (s : State) (n : Nat) (k : Source) :
    (s.advance n).ints.flags.getLsbD k.index = true ↔ s.ints.flags.getLsbD k.index = true ∨ ∃ m < n, (s.advance m).Requests k := by
  induction n with
  | zero => simp
  | succ n ih =>
    rw [State.advance_succ', State.getLsbD_tick_flags, ih, or_assoc]
    simp only [Nat.lt_succ_iff_lt_or_eq, or_and_right, exists_or, exists_eq_left]

/-- T-cycles that do not request a source leave its bit of IF as it was. -/
theorem State.getLsbD_advance_flags_of_quiet (s : State) (n : Nat) (k : Source) (h : ∀ m < n, ¬ (s.advance m).Requests k) :
    (s.advance n).ints.flags.getLsbD k.index = s.ints.flags.getLsbD k.index :=
  Bool.eq_iff_iff.mpr ((s.getLsbD_advance_flags n k).trans (or_iff_left fun ⟨m, hm, hreq⟩ => h m hm hreq))

theorem State.requests_timer (s : State) : s.Requests .timer ↔ s.timer.reloads = true := by simp [State.Requests]

theorem State.requests_vblank (s : State) : s.Requests .vblank ↔ s.ppu.tickVblank = true := by simp [State.Requests]

theorem State.requests_stat (s : State) : s.Requests .stat ↔ s.ppu.tickStat s.cfg.mode3Len = true := by simp [State.Requests]

/-- Settles O46: each T-cycle is one tick of each device, with the requests those ticks make. -/
theorem devicesAdvanceApart : Obligations.DevicesAdvanceApart := by
  intro s n
  refine ⟨s.advance_timer n, s.advance_ppu n, s.advance_apu n, s.advance_frame n, s.advance_ie n, fun k => ?_⟩
  rw [State.getLsbD_advance_flags]
  simp only [State.Requests, State.advance_cfg]

end Sys2Proof.Machine
end

section
/-! SUPPORT and PROOFS of O47, O48 and O49. A tick of the timer in numbers: the divider counts, TIMA counts the multiples of the period that it
passes. -/

namespace Sys2Proof.Machine

/-- The T-cycles between two falls of the selected divider bit (60_exceptions R331, 10_state R37). -/
def Timer.period (t : Timer) : Nat := 2 ^ (timerSelBit (t.tac.extractLsb' 0 2) + 1)

theorem Timer.period_eq (t : Timer) : t.period = match t.tac.toNat % 4 with | 0 => 1024 | 1 => 16 | 2 => 64 | _ => 256 := by
  unfold Timer.period
  generalize t.tac = c
  revert c
  decide

theorem timerSelBit_cases (cs : BitVec 2) : timerSelBit cs = 9 ∨ timerSelBit cs = 3 ∨ timerSelBit cs = 5 ∨ timerSelBit cs = 7 := by
  revert cs
  decide

/-- A bit of the divider falls as it counts to a multiple of the bit's period. -/
theorem getLsbD_falls_iff (w : Word) (cs : BitVec 2) :
    (w.getLsbD (timerSelBit cs) = true ∧ (w + 1).getLsbD (timerSelBit cs) = false) ↔ (w.toNat + 1) % 2 ^ (timerSelBit cs + 1) = 0 := by
  have hw := w.isLt
  have hadd : (w + 1).toNat = (w.toNat + 1) % 65536 := BitVec.toNat_add w 1
  simp only [BitVec.getLsbD, Nat.testBit_eq_decide_div_mod_eq, hadd, decide_eq_true_eq, decide_eq_false_iff_not]
  rcases timerSelBit_cases cs with h | h | h | h <;> simp only [h, Nat.reduceAdd, Nat.reducePow] <;> omega

/-! The edge check by the signal before and the signal now (R331). -/

theorem Timer.edgeCheck_of_fall {t : Timer} (h : t.lastSig = true ∧ t.signal = false) :
    t.edgeCheck = { t.increment with lastSig := false } := by
  simp [Timer.edgeCheck, h]

theorem Timer.edgeCheck_of_no_fall {t : Timer} (h : ¬ (t.lastSig = true ∧ t.signal = false)) :
    t.edgeCheck = { t with lastSig := t.signal } := if_neg (by simpa using h)

/-! A tick. -/

theorem Timer.countReload_frame (t : Timer) :
    t.countReload.div16 = t.div16 ∧ t.countReload.tac = t.tac ∧ t.countReload.lastSig = t.lastSig ∧ t.countReload.tma = t.tma := by
  unfold Timer.countReload
  split
  · exact ⟨rfl, rfl, rfl, rfl⟩
  · split <;> exact ⟨rfl, rfl, rfl, rfl⟩

/-- Whether the enabled timer's selected bit falls in the next T-cycle. -/
def Timer.Falls (t : Timer) : Prop := t.tac.getLsbD 2 = true ∧ (t.div16.toNat + 1) % t.period = 0

/-- The edge check of a tick finds a fall exactly when the divider counts to a multiple of the period. -/
theorem Timer.falls_iff {t : Timer} (hok : t.Ok) : t.lastSig = true ∧ Timer.signal { t with div16 := t.div16 + 1 } = false ↔ t.Falls := by
  have hbit := getLsbD_falls_iff t.div16 (t.tac.extractLsb' 0 2)
  rw [hok.lastSig, Timer.Falls, Timer.period, ← hbit]
  unfold Timer.signal
  cases t.tac.getLsbD 2 <;> simp

theorem Timer.countReload_falls_iff {t : Timer} (hok : t.Ok) :
    t.countReload.lastSig = true ∧ Timer.signal { t.countReload with div16 := t.countReload.div16 + 1 } = false ↔ t.Falls := by
  obtain ⟨hdiv, htac, hlast, _⟩ := t.countReload_frame
  rw [← Timer.falls_iff hok]
  simp only [Timer.signal, hdiv, htac, hlast]

theorem Timer.tick_of_falls {t : Timer} (hok : t.Ok) (h : t.Falls) :
    t.tick = { t.countReload.increment with div16 := t.countReload.div16 + 1, lastSig := false } :=
  Timer.edgeCheck_of_fall ((Timer.countReload_falls_iff hok).mpr h)

theorem Timer.tick_of_not_falls {t : Timer} (hok : t.Ok) (h : ¬ t.Falls) :
    t.tick = { t.countReload with div16 := t.countReload.div16 + 1, lastSig := t.tick.lastSig } := by
  rw [Timer.tick, Timer.edgeCheck_of_no_fall (mt (Timer.countReload_falls_iff hok).mp h)]

theorem Timer.tick_counts {t : Timer} (hok : t.Ok) : t.tick.div16 = t.div16 + 1 ∧ t.tick.tac = t.tac ∧ t.tick.tma = t.tma := by
  obtain ⟨hdiv, htac, _, htma⟩ := t.countReload_frame
  by_cases h : t.Falls
  · rw [Timer.tick_of_falls hok h, ← hdiv, ← htac, ← htma]
    exact ⟨rfl, rfl, rfl⟩
  · rw [Timer.tick_of_not_falls hok h, hdiv, htac, htma]
    exact ⟨rfl, rfl, rfl⟩

/-- The divider after some T-cycles, with TAC and TMA as before. -/
theorem Timer.iterate_tick_counts {t : Timer} (hok : t.Ok) (n : Nat) :
    (Timer.tick^[n] t).Ok ∧ (Timer.tick^[n] t).div16.toNat = (t.div16.toNat + n) % 65536 ∧ (Timer.tick^[n] t).tac = t.tac ∧
      (Timer.tick^[n] t).tma = t.tma := by
  induction n with
  | zero => exact ⟨hok, (Nat.mod_eq_of_lt t.div16.isLt).symm, rfl, rfl⟩
  | succ n ih =>
    obtain ⟨hok', hdiv, htac, htma⟩ := ih
    rw [Function.iterate_succ_apply']
    obtain ⟨hdiv', htac', htma'⟩ := Timer.tick_counts hok'
    refine ⟨hok'.tick, ?_, htac'.trans htac, htma'.trans htma⟩
    have hsucc : ((Timer.tick^[n] t).div16 + 1).toNat = ((Timer.tick^[n] t).div16.toNat + 1) % 65536 := BitVec.toNat_add _ 1
    rw [hdiv', hsucc, hdiv]
    omega

theorem Timer.period_cases (t : Timer) : t.period = 1024 ∨ t.period = 16 ∨ t.period = 64 ∨ t.period = 256 := by
  unfold Timer.period
  rcases timerSelBit_cases (t.tac.extractLsb' 0 2) with h | h | h | h <;> simp [h]

/-- The selected bit falls in the T-cycle that takes the divider to a multiple of the period. -/
theorem Timer.iterate_tick_falls_iff {t : Timer} (hok : t.Ok) (n : Nat) :
    (Timer.tick^[n] t).Falls ↔ t.tac.getLsbD 2 = true ∧ (t.div16.toNat + n + 1) % t.period = 0 := by
  obtain ⟨_, hdiv, htac, _⟩ := Timer.iterate_tick_counts hok n
  have hperiod : (Timer.tick^[n] t).period = t.period := by rw [Timer.period, Timer.period, htac]
  rw [Timer.Falls, htac, hdiv, hperiod]
  refine and_congr_right fun _ => ?_
  rcases t.period_cases with h | h | h | h <;> rw [h] <;> omega

/-! TIMA over time. -/

theorem Timer.countReload_none {t : Timer} (h : t.reloadIn = none) : t.countReload = t := by
  rw [Timer.countReload, h]

/-- TIMA counts the multiples of the period that the divider passes, while that does not wrap it. -/
theorem Timer.iterate_tick_tima {t : Timer} (hok : t.Ok) (hnone : t.reloadIn = none) (hen : t.tac.getLsbD 2 = true) (n : Nat)
    (hwrap : t.tima.toNat + ((t.div16.toNat + n) / t.period - t.div16.toNat / t.period) ≤ 255) :
    (Timer.tick^[n] t).reloadIn = none ∧
      (Timer.tick^[n] t).tima.toNat = t.tima.toNat + ((t.div16.toNat + n) / t.period - t.div16.toNat / t.period) := by
  induction n with
  | zero => simpa using hnone
  | succ n ih =>
    obtain ⟨hok', _⟩ := Timer.iterate_tick_counts hok n
    have hmono : t.div16.toNat / t.period ≤ (t.div16.toNat + n) / t.period := Nat.div_le_div_right (Nat.le_add_right _ n)
    have hsucc : (t.div16.toNat + (n + 1)) / t.period =
        (t.div16.toNat + n) / t.period + if t.period ∣ t.div16.toNat + n + 1 then 1 else 0 := Nat.succ_div
    obtain ⟨hreload, htima⟩ := ih (by split at hsucc <;> omega)
    rw [Function.iterate_succ_apply']
    by_cases hfalls : (Timer.tick^[n] t).Falls
    · have hdvd := Nat.dvd_of_mod_eq_zero ((Timer.iterate_tick_falls_iff hok n).mp hfalls).2
      rw [if_pos hdvd] at hsucc
      have hlt : (Timer.tick^[n] t).tima.toNat < 255 := by omega
      have hff : (Timer.tick^[n] t).tima ≠ 0xFF := fun h => by simp [h] at hlt
      rw [Timer.tick_of_falls hok' hfalls, Timer.countReload_none hreload]
      refine ⟨(if_neg hff).trans hreload, ?_⟩
      show ((Timer.tick^[n] t).tima + 1).toNat = _
      rw [BitVec.toNat_add, show (1 : Byte).toNat = 1 from rfl]
      omega
    · have hndvd : ¬ t.period ∣ t.div16.toNat + n + 1 := fun h =>
        hfalls ((Timer.iterate_tick_falls_iff hok n).mpr ⟨hen, Nat.mod_eq_zero_of_dvd h⟩)
      rw [if_neg hndvd] at hsucc
      rw [Timer.tick_of_not_falls hok' hfalls, Timer.countReload_none hreload]
      refine ⟨hreload, htima.trans ?_⟩
      omega

/-- Settles O47: each increment of TIMA is a multiple of the period passed. -/
theorem timaCountsEdges : Obligations.TimaCountsEdges := by
  intro s n d p c hok hnone hen hp hd hc hwrap
  obtain rfl : p = s.timer.period := hp.trans s.timer.period_eq.symm
  subst hd hc
  have hrun : ∀ m ≤ n, (s.advance m).timer.reloadIn = none ∧ (s.advance m).timer.tima.toNat =
      s.timer.tima.toNat + ((s.timer.div16.toNat + m) / s.timer.period - s.timer.div16.toNat / s.timer.period) := fun m hm => by
    rw [State.advance_timer]
    have hle : (s.timer.div16.toNat + m) / s.timer.period ≤ (s.timer.div16.toNat + n) / s.timer.period :=
      Nat.div_le_div_right (Nat.add_le_add_left hm _)
    exact Timer.iterate_tick_tima hok hnone hen m (by omega)
  refine ⟨(hrun n le_rfl).2, ?_, (hrun n le_rfl).1, ?_⟩
  · rw [State.advance_timer]
    exact (Timer.iterate_tick_counts hok n).2.1
  · refine s.getLsbD_advance_flags_of_quiet n .timer fun m hm => ?_
    rw [State.requests_timer, Timer.reloads, (hrun m hm.le).1]
    exact Bool.false_ne_true

/-! The reload. -/

/-- Just after the signal was 0 it cannot fall: it is 1 for half a period at a time. -/
theorem Timer.iterate_tick_not_falls {t : Timer} (hok : t.Ok) (hsig : t.signal = false) {n : Nat} (hn : n < 4) :
    ¬ (Timer.tick^[n] t).Falls := by
  rw [Timer.iterate_tick_falls_iff hok]
  rintro ⟨hen, hmod⟩
  rw [Timer.signal, hen, Bool.true_and, BitVec.getLsbD, Nat.testBit_eq_decide_div_mod_eq] at hsig
  rw [Timer.period] at hmod
  rcases timerSelBit_cases (t.tac.extractLsb' 0 2) with h | h | h | h <;>
    simp only [h, Nat.reduceAdd, Nat.reducePow, decide_eq_false_iff_not] at hsig hmod <;> omega

theorem Timer.countReload_some {t : Timer} {n : Nat} (h : t.reloadIn = some n) :
    t.countReload = if n ≤ 1 then { t with tima := t.tma, reloadIn := none } else { t with reloadIn := some (n - 1) } := by
  rw [Timer.countReload, h]

/-- The reload delay counts down with TIMA as it was. -/
theorem Timer.iterate_tick_delay {t : Timer} (hok : t.Ok) (hreload : t.reloadIn = some 4) (hsig : t.signal = false) {n : Nat} (hn : n < 4) :
    (Timer.tick^[n] t).reloadIn = some (4 - n) ∧ (Timer.tick^[n] t).tima = t.tima := by
  induction n with
  | zero => exact ⟨hreload, rfl⟩
  | succ n ih =>
    obtain ⟨hdelay, htima⟩ := ih (by omega)
    obtain ⟨hok', _⟩ := Timer.iterate_tick_counts hok n
    rw [Function.iterate_succ_apply', Timer.tick_of_not_falls hok' (Timer.iterate_tick_not_falls hok hsig (by omega)),
      Timer.countReload_some hdelay, if_neg (by omega)]
    exact ⟨by rw [Nat.sub_sub], htima⟩

/-- The delay ends at the fourth T-cycle, with TMA in TIMA. -/
theorem Timer.iterate_tick_reload {t : Timer} (hok : t.Ok) (hreload : t.reloadIn = some 4) (hsig : t.signal = false) :
    (Timer.tick^[4] t).reloadIn = none ∧ (Timer.tick^[4] t).tima = t.tma := by
  obtain ⟨hdelay, _⟩ := Timer.iterate_tick_delay hok hreload hsig (n := 3) (by omega)
  obtain ⟨hok', _, _, htma⟩ := Timer.iterate_tick_counts hok 3
  rw [Function.iterate_succ_apply', Timer.tick_of_not_falls hok' (Timer.iterate_tick_not_falls hok hsig (by omega)),
    Timer.countReload_some hdelay, if_pos (by omega)]
  exact ⟨rfl, htma⟩

theorem Timer.reloads_some {t : Timer} {n : Nat} (h : t.reloadIn = some n) : t.reloads = decide (n ≤ 1) := by
  rw [Timer.reloads, h]

/-- Settles O48: the delay of the reload, in which no divider bit can fall, and the request that ends it. -/
theorem timaReload : Obligations.TimaReload := by
  have hdelay : ∀ {s : State}, s.timer.Ok → s.timer.reloadIn = some 4 → s.timer.signal = false → ∀ n < 4,
      (s.advance n).timer.reloadIn = some (4 - n) ∧ (s.advance n).timer.tima = s.timer.tima := fun hok hreload hsig n hn => by
    rw [State.advance_timer]
    exact Timer.iterate_tick_delay hok hreload hsig hn
  refine ⟨fun t h => ?wrap, fun s n hok hreload hsig htima hn => ?delay, fun s hok hreload hsig => ?reload⟩
  case wrap => simp [Timer.increment, h]
  case delay =>
    obtain ⟨hin, hkept⟩ := hdelay hok hreload hsig n hn
    refine ⟨hkept.trans htima, hin, ?_⟩
    refine s.getLsbD_advance_flags_of_quiet n .timer fun m hm => ?_
    rw [State.requests_timer, Timer.reloads_some (hdelay hok hreload hsig m (by omega)).1, decide_eq_true_eq]
    omega
  case reload =>
    have hend := Timer.iterate_tick_reload hok hreload hsig
    rw [← State.advance_timer] at hend
    refine ⟨hend.2, hend.1, ?_⟩
    have hrequest := Timer.reloads_some (hdelay hok hreload hsig 3 (by omega)).1
    exact (s.getLsbD_advance_flags 4 .timer).mpr (.inr ⟨3, by omega, .inl ⟨rfl, hrequest⟩⟩)

/-! Writes. -/

/-- The edge check of a write: TIMA is incremented when the signal was 1 and the register written makes it 0 (R332). -/
theorem Timer.edgeCheck_write {t : Timer} {b : Bool} (hlast : t.lastSig = b) :
    t.edgeCheck = { (if b && !t.signal then t.increment else t) with lastSig := t.signal } := by
  subst hlast
  unfold Timer.edgeCheck
  split <;> rfl

theorem Timer.signal_of_div16_zero (t : Timer) : Timer.signal { t with div16 := 0 } = false := by
  simp [Timer.signal]

theorem Timer.writeDiv_eq {t : Timer} (hok : t.Ok) :
    t.writeDiv = { (if t.signal then t.increment else t) with div16 := 0, lastSig := false } := by
  have hlast : Timer.lastSig { t with div16 := 0 } = t.signal := hok.lastSig
  rw [Timer.writeDiv, Timer.edgeCheck_write hlast, t.signal_of_div16_zero]
  cases t.signal <;> rfl

theorem Timer.writeTac_eq {t : Timer} (hok : t.Ok) (v : Byte) {b : Bool} (hb : b = Timer.signal { t with tac := v.extractLsb' 0 3 }) :
    t.writeTac v = { (if t.signal && !b then t.increment else t) with tac := v.extractLsb' 0 3, lastSig := b } := by
  have hlast : Timer.lastSig { t with tac := v.extractLsb' 0 3 } = t.signal := hok.lastSig
  rw [Timer.writeTac, Timer.edgeCheck_write hlast, ← hb]
  cases t.signal <;> cases b <;> rfl

/-- TAC's stored bits select the divider bit as the bits written do. -/
theorem Timer.signal_storeTac (t : Timer) (v : Byte) :
    Timer.signal { t with tac := v.extractLsb' 0 3 } = (v.getLsbD 2 && t.div16.getLsbD (timerSelBit (v.extractLsb' 0 2))) := by
  have henable : (v.extractLsb' 0 3).getLsbD 2 = v.getLsbD 2 := by simp
  have hselect : (v.extractLsb' 0 3).extractLsb' 0 2 = v.extractLsb' 0 2 := by ext; simp
  simp only [Timer.signal, henable, hselect]

/-- Settles O49: DIV and TAC run the edge check, TIMA and TMA are stored. -/
theorem timerWrites : Obligations.TimerWrites := by
  intro s v hok
  simp only [s.write_register v rfl ioRegOf_div, s.write_register v rfl ioRegOf_tac, s.write_register v rfl ioRegOf_tima,
    s.write_register v rfl ioRegOf_tma, State.read_register _ rfl ioRegOf_div, State.read_register _ rfl ioRegOf_tac,
    State.read_register _ rfl ioRegOf_tima, State.read_register _ rfl ioRegOf_tma]
  refine ⟨?div, ?tac, rfl, rfl, rfl, rfl, ?readDiv, ?readTac⟩
  case div =>
    rintro _ rfl
    exact Timer.writeDiv_eq hok
  case tac =>
    rintro _ b' rfl hb'
    exact Timer.writeTac_eq hok v (hb'.trans (s.timer.signal_storeTac v).symm)
  case readDiv =>
    show hiByte s.timer.writeDiv.div16 = 0x00
    rw [Timer.writeDiv_eq hok]
    exact (by decide : hiByte 0 = 0x00)
  case readTac =>
    show (0b11111 : BitVec 5) ++ (s.timer.writeTac v).tac = v ||| 0xF8
    rw [Timer.writeTac_eq hok v rfl]
    exact (by decide : ∀ v : Byte, (0b11111 : BitVec 5) ++ v.extractLsb' 0 3 = v ||| 0xF8) v

end Sys2Proof.Machine
end

section
/-! SUPPORT and PROOF of O59. The joypad's lines bit by bit, and its edge check as a fall of one of them. -/

namespace Sys2Proof.Machine

/-- A line is 0 when a button of a selected group is pressed (60_exceptions R351). -/
theorem Joypad.getLsbD_lines (j : Joypad) {k : Nat} (hk : k < 4) :
    j.lines.getLsbD k = !((!j.p1Sel.getLsbD 0 && j.buttons.getLsbD k) || (!j.p1Sel.getLsbD 1 && j.buttons.getLsbD (k + 4))) := by
  have hall : (0b1111 : BitVec 4).getLsbD k = true := by interval_cases k <;> rfl
  rw [Joypad.lines, BitVec.getLsbD_and, apply_ite (BitVec.getLsbD · k), apply_ite (BitVec.getLsbD · k), hall]
  cases j.p1Sel.getLsbD 0 <;> cases j.p1Sel.getLsbD 1 <;> simp [hk, Nat.add_comm k 4]

theorem Joypad.lines_eq {lines : Joypad → BitVec 4} (h : ∀ (j : Joypad) (k : Nat), k < 4 → (lines j).getLsbD k =
      !((!j.p1Sel.getLsbD 0 && j.buttons.getLsbD k) || (!j.p1Sel.getLsbD 1 && j.buttons.getLsbD (k + 4)))) :
    lines = Joypad.lines :=
  funext fun j => BitVec.eq_of_getLsbD_eq fun k hk => (h j k hk).trans (j.getLsbD_lines hk).symm

theorem Joypad.falls_iff (j : Joypad) : j.falls = true ↔ ∃ k < 4, j.p1Prev.getLsbD k = true ∧ j.lines.getLsbD k = false := by
  rw [Joypad.falls, decide_eq_true_eq]
  constructor
  · contrapose!
    intro h
    refine BitVec.eq_of_getLsbD_eq fun k hk => ?_
    cases hprev : j.p1Prev.getLsbD k with
    | false => simp [hprev]
    | true => simp [h k hk hprev]
  · rintro ⟨k, hk, hprev, hline⟩ hzero
    have hbit := congrArg (BitVec.getLsbD · k) hzero
    rw [BitVec.getLsbD_eq_getElem hk] at hprev hline
    simp [hprev, hline, hk] at hbit

/-- What the edge check does, the fall of a line being given (R352, R346). -/
theorem State.joypadEdgeCheck_eq (s : State) :
    s.joypadEdgeCheck =
      { s with
        joypad := { s.joypad with p1Prev := s.joypad.lines }
        cpu := { s.cpu with stopped := s.cpu.stopped && !s.joypad.falls }
        ints := { s.ints with flags := if s.joypad.falls then s.ints.flags ||| 0b10000 else s.ints.flags } } := rfl

/-- P1 reads its selection bits over the lines (R351). -/
theorem Joypad.readP1_eq (j : Joypad) : j.readP1 = 0xC0 ||| (j.p1Sel.zeroExtend 8 <<< 4) ||| j.lines.zeroExtend 8 := by
  unfold Joypad.readP1
  generalize j.p1Sel = sel
  generalize j.lines = lines
  revert sel lines
  decide

/-- Settles O59: the host's call and a P1 write are the edge check of the joypad they leave. -/
theorem joypadLines : Obligations.JoypadLines := by
  intro lines hlines
  obtain rfl := Joypad.lines_eq hlines
  refine ⟨fun cfg cart => rfl, fun s => ⟨?_, ?_⟩⟩
  · rw [s.read_register rfl ioRegOf_p1]
    exact s.joypad.readP1_eq
  · intro t j v ht
    have hcheck : t = State.joypadEdgeCheck { s with joypad := j } ∧ j.p1Prev = s.joypad.p1Prev := by
      rcases ht with ⟨rfl, rfl⟩ | ⟨rfl, rfl⟩
      · exact ⟨rfl, rfl⟩
      · exact ⟨s.write_register v rfl ioRegOf_p1, rfl⟩
    obtain ⟨rfl, hprev⟩ := hcheck
    refine ⟨rfl, fun falls hfalls => ?_⟩
    obtain rfl : j.falls = falls := by rw [Bool.eq_iff_iff, j.falls_iff, hfalls, hprev]
    exact State.joypadEdgeCheck_eq _

end Sys2Proof.Machine
end

section
/-! SUPPORT and PROOFS of O50 and O51. The PPU's place in the frame, that each T-cycle moves it by one, and the one place where V-blank begins. -/

namespace Sys2Proof.Machine

/-- Line, dot and mode do not depend on the window counter. -/
theorem Ppu.moveDot_windowLine (len : Nat) (p : Ppu) (w : Nat) :
    (Ppu.moveDot len { p with windowLine := w }).ly = (p.moveDot len).ly ∧
      (Ppu.moveDot len { p with windowLine := w }).dot = (p.moveDot len).dot ∧
      (Ppu.moveDot len { p with windowLine := w }).mode = (p.moveDot len).mode := by
  unfold Ppu.moveDot Ppu.nextDot Ppu.nextLine
  dsimp only
  repeat' split
  all_goals exact ⟨rfl, rfl, rfl⟩

/-- What moving a dot within a line leaves alone. -/
theorem Ppu.nextDot_frame (len : Nat) (p : Ppu) :
    (p.nextDot len).dot = p.dot + 1 ∧ (p.nextDot len).ly = p.ly ∧ (p.nextDot len).front = p.front ∧
      (p.nextDot len).frameReady = p.frameReady ∧ (p.nextDot len).statLine = p.statLine := by
  unfold Ppu.nextDot
  repeat' split
  all_goals exact ⟨rfl, rfl, rfl, rfl, rfl⟩

theorem Ppu.moveDot_dot (len : Nat) (p : Ppu) : (p.moveDot len).dot = if p.dot + 1 = 456 then 0 else p.dot + 1 := by
  unfold Ppu.moveDot
  split
  · rfl
  · exact (p.nextDot_frame len).1

theorem Ppu.moveDot_ly (len : Nat) (p : Ppu) :
    (p.moveDot len).ly = if p.dot + 1 = 456 then (if p.ly + 1 = 154 then 0 else p.ly + 1) else p.ly := by
  unfold Ppu.moveDot
  split
  · rfl
  · exact (p.nextDot_frame len).2.1

/-- The LCD is on and the PPU at T-cycle `x` of the frames counted from line 0 (61_ppu R376). -/
structure Ppu.At (len : Nat) (p : Ppu) (x : Nat) : Prop where
  on : p.lcdOn = true
  dot : p.dot = x % 456
  ly : p.ly = x / 456 % 154
  mode : p.mode = scheduledMode len p.ly p.dot

/-- A tick keeps the schedule's mode. -/
theorem Ppu.moveDot_mode {len : Nat} {p : Ppu} (hlen : 1 ≤ len) (hly : p.ly ≤ 153) (hdot : p.dot ≤ 455)
    (hmode : p.mode = scheduledMode len p.ly p.dot) : (p.moveDot len).mode = scheduledMode len (p.moveDot len).ly (p.moveDot len).dot := by
  have htimed : Ppu.Timed len { p with windowLine := 0 } := ⟨hly, hdot, hmode, ⟨Nat.zero_le _, Nat.zero_le _⟩, fun _ => Nat.zero_le _⟩
  obtain ⟨ely, edot, emode⟩ := p.moveDot_windowLine len 0
  rw [← ely, ← edot, ← emode]
  exact (htimed.moveDot hlen).mode

theorem Ppu.tick_on {len : Nat} {p : Ppu} (h : p.lcdOn = true) : p.tick len = (p.moveDot len).statUpdate := if_pos h

theorem Ppu.tick_off {len : Nat} {p : Ppu} (h : p.lcdOn = false) : p.tick len = p := by rw [Ppu.tick, h]; rfl

theorem Ppu.lcdOn_moveDot (len : Nat) (p : Ppu) : (p.moveDot len).lcdOn = p.lcdOn := by
  rw [Ppu.lcdOn, (p.moveDot_frame len).1, Ppu.lcdOn]

theorem Ppu.At.tick {len x : Nat} {p : Ppu} (h : p.At len x) (hlen : 1 ≤ len) : (p.tick len).At len (x + 1) := by
  obtain ⟨hon, hdot, hly, hmode⟩ := h
  rw [Ppu.tick_on hon]
  refine ⟨(p.lcdOn_moveDot len).trans hon, (p.moveDot_dot len).trans ?_, (p.moveDot_ly len).trans ?_,
    Ppu.moveDot_mode hlen (by omega) (by omega) hmode⟩
  · rw [hdot]
    split <;> omega
  · rw [hdot, hly]
    split
    · split <;> omega
    · omega

/-- Every T-cycle moves the PPU on by one, while the LCD stays on. -/
theorem State.advance_at {s : State} {x : Nat} (hlen : 1 ≤ s.cfg.mode3Len) (h : s.ppu.At s.cfg.mode3Len x) (n : Nat) :
    (s.advance n).ppu.At s.cfg.mode3Len (x + n) := by
  induction n with
  | zero => exact h
  | succ n ih =>
    rw [State.advance_succ', State.tick_ppu, State.advance_cfg]
    exact ih.tick hlen

/-- Settles O50: from the start of a frame the PPU is at T-cycle k. -/
theorem ppuSchedule : Obligations.PpuSchedule := by
  intro s k hlow _ hon hly hdot hmode
  have hstart : s.ppu.At s.cfg.mode3Len 0 := ⟨hon, hdot, hly, by rw [hmode, hly, hdot]; rfl⟩
  obtain ⟨_, hdot', hly', hmode'⟩ := State.advance_at (by omega) hstart k
  rw [Nat.zero_add] at hdot' hly'
  refine ⟨hdot', hly', ?_⟩
  rw [hmode', hdot', hly', scheduledMode]

/-! V-blank. -/

/-- The T-cycle in which V-blank begins is the last one of line 143 (61_ppu R380). -/
theorem Ppu.At.tickVblank_iff {len x : Nat} {p : Ppu} (h : p.At len x) : p.tickVblank = true ↔ x % 70224 = 65663 := by
  obtain ⟨hon, hdot, hly, _⟩ := h
  simp only [Ppu.tickVblank, hon, hdot, hly, Bool.true_and, Bool.and_eq_true, decide_eq_true_eq]
  omega

/-- The tick in which V-blank begins publishes the frame drawn, and no other one does (R380, R405). -/
theorem Ppu.tick_publishes (len : Nat) (p : Ppu) :
    (p.tick len).front = (if p.tickVblank then p.work else p.front) ∧ (p.tick len).frameReady = (p.frameReady || p.tickVblank) := by
  cases hon : p.lcdOn with
  | false => simp [Ppu.tick_off hon, Ppu.tickVblank, hon]
  | true =>
    rw [Ppu.tick_on hon]
    show (p.moveDot len).front = _ ∧ (p.moveDot len).frameReady = _
    unfold Ppu.moveDot
    by_cases hend : p.dot + 1 = 456
    · have hly : (if p.ly + 1 = 154 then 0 else p.ly + 1) = 144 ↔ p.ly + 1 = 144 := by split <;> omega
      simp only [Ppu.nextLine, hly, Ppu.tickVblank, hon, hend]
      by_cases hvblank : p.ly + 1 = 144 <;> simp [hvblank]
    · obtain ⟨_, _, hfront, hready, _⟩ := p.nextDot_frame len
      simp [hend, hfront, hready, Ppu.tickVblank]

theorem Ppu.Ok.at {len : Nat} {p : Ppu} (h : p.Ok len) (hon : p.lcdOn = true) : p.At len (456 * p.ly + p.dot) := by
  have hly := h.ly
  have hdot := h.dot
  exact ⟨hon, by omega, by omega, h.on hon⟩

/-- The one of 70,224 T-cycles from T-cycle `x` of a frame in which V-blank begins. -/
def vblankAfter (x : Nat) : Nat := (65663 + (70224 - x % 70224)) % 70224

theorem vblankAfter_lt (x : Nat) : vblankAfter x < 70224 := Nat.mod_lt _ (by decide)

theorem Ppu.At.tickVblank_iff_eq {len x j : Nat} {p : Ppu} (h : p.At len (x + j)) (hj : j < 70224) : p.tickVblank = true ↔ j = vblankAfter x := by
  rw [h.tickVblank_iff, vblankAfter]
  omega

/-- Up to one frame from T-cycle `x`, V-blank begins once, publishes the frame drawn and makes it ready. -/
theorem State.advance_publishes {s : State} {x : Nat} (hlen : 1 ≤ s.cfg.mode3Len) (h : s.ppu.At s.cfg.mode3Len x) {j : Nat} (hj : j ≤ 70224) :
    (s.advance j).ppu.frameReady = (s.ppu.frameReady || decide (vblankAfter x < j)) ∧
      (s.advance j).ppu.front = if vblankAfter x < j then (s.advance (vblankAfter x)).ppu.work else s.ppu.front := by
  induction j with
  | zero => simp
  | succ j ih =>
    obtain ⟨hready, hfront⟩ := ih (by omega)
    have hvblank := (State.advance_at hlen h j).tickVblank_iff_eq (by omega)
    obtain ⟨hfront', hready'⟩ := (s.advance j).ppu.tick_publishes s.cfg.mode3Len
    rw [State.advance_succ', State.tick_ppu, State.advance_cfg, hready', hfront', hready, hfront]
    by_cases hnow : j = vblankAfter x
    · rw [hvblank.mpr hnow, if_pos rfl, if_pos (by omega), ← hnow, decide_eq_true (Nat.lt_succ_self j), Bool.or_true, Bool.or_true]
      exact ⟨rfl, rfl⟩
    · have hquiet : (s.advance j).ppu.tickVblank = false := Bool.eq_false_iff.mpr (mt hvblank.mp hnow)
      have hlt : vblankAfter x < j + 1 ↔ vblankAfter x < j := by omega
      simp only [hquiet, hlt, Bool.or_false, Bool.false_eq_true, if_false, and_self]

/-- V-blank is requested by the one T-cycle in which it begins. -/
theorem State.advance_vblank_flag {s : State} {x : Nat} (hlen : 1 ≤ s.cfg.mode3Len) (h : s.ppu.At s.cfg.mode3Len x) {j : Nat} (hj : j ≤ 70224) :
    (s.advance j).ints.flags.getLsbD 0 = (s.ints.flags.getLsbD 0 || decide (vblankAfter x < j)) := by
  have hrequest : (∃ m < j, (s.advance m).Requests .vblank) ↔ vblankAfter x < j := by
    constructor
    · rintro ⟨m, hm, hreq⟩
      rw [State.requests_vblank, (State.advance_at hlen h m).tickVblank_iff_eq (by omega)] at hreq
      omega
    · intro hlt
      refine ⟨_, hlt, ?_⟩
      rw [State.requests_vblank, (State.advance_at hlen h _).tickVblank_iff_eq (vblankAfter_lt x)]
  rw [Bool.eq_iff_iff, Bool.or_eq_true, decide_eq_true_eq, ← hrequest]
  exact s.getLsbD_advance_flags j .vblank

/-- Settles O51: V-blank begins at one place of the frame, and 70,224 T-cycles are one frame. -/
theorem oneVBlankPerFrame : Obligations.OneVBlankPerFrame := by
  refine ⟨fun s hinv hon => ?_, fun s => ⟨rfl, rfl, rfl⟩⟩
  have hlen : 1 ≤ s.cfg.mode3Len := by
    have := Config.wellFormed_mode3Len hinv.cfg
    omega
  have hstart := hinv.ppu.at hon
  generalize 456 * s.ppu.ly + s.ppu.dot = x at hstart
  refine ⟨vblankAfter x, vblankAfter_lt x, fun j hj => ?begins, fun j hj => ⟨State.advance_vblank_flag hlen hstart hj, ?_⟩, ?_⟩
  case begins =>
    rw [← (State.advance_at hlen hstart j).tickVblank_iff_eq hj, (State.advance_at hlen hstart j).tickVblank_iff,
      (State.advance_at hlen hstart j).ly, (State.advance_at hlen hstart (j + 1)).ly]
    omega
  · exact State.advance_publishes hlen hstart hj
  · rw [(State.advance_at hlen hstart 70224).ly, (State.advance_at hlen hstart 70224).dot, hstart.ly, hstart.dot]
    omega

end Sys2Proof.Machine
end

section
/-! SUPPORT and PROOFS of O52 and O53. The STAT line after a dot and after a register's write, and the PPU while the LCD is off. -/

namespace Sys2Proof.Machine

/-- The combined STAT signal, the modes by the numbers STAT reports (61_ppu R360, R390). -/
theorem Ppu.statSignal_eq (p : Ppu) :
    p.statSignal =
      if p.lcdc.getLsbD 7 then
        ((p.statMask.getLsbD 3 && decide (p.ly = p.lyc.toNat)) || (p.statMask.getLsbD 2 && decide (p.mode.number = 2)) ||
         (p.statMask.getLsbD 1 && decide (p.mode.number = 1)) || (p.statMask.getLsbD 0 && decide (p.mode.number = 0)))
      else false := by
  have hscan : p.mode = .oamScan ↔ p.mode.number = 2 := by cases p.mode <;> decide
  have hvblank : p.mode = .vblank ↔ p.mode.number = 1 := by cases p.mode <;> decide
  have hhblank : p.mode = .hblank ↔ p.mode.number = 0 := by cases p.mode <;> decide
  rw [Ppu.statSignal, Ppu.lcdOn, Ppu.coincidence]
  simp only [hscan, hvblank, hhblank]
  cases p.lcdc.getLsbD 7 <;> rfl

theorem Ppu.moveDot_statLine (len : Nat) (p : Ppu) : (p.moveDot len).statLine = p.statLine := by
  unfold Ppu.moveDot
  split
  · rfl
  · exact (p.nextDot_frame len).2.2.2.2

theorem Ppu.storeLcdc_statLine (p : Ppu) (v : Byte) : (p.storeLcdc v).statLine = p.statLine := by
  unfold Ppu.storeLcdc
  split <;> rfl

/-- What a tick with the LCD on leaves of the STAT line and its bit of IF. -/
theorem State.tick_stat {s : State} (hon : s.ppu.lcdOn = true) :
    s.tick.ppu.statLine = s.tick.ppu.statSignal ∧
      s.tick.ints.flags.getLsbD 1 = (s.ints.flags.getLsbD 1 || (!s.ppu.statLine && s.tick.ppu.statSignal)) := by
  have htick : s.tick.ppu = (s.ppu.moveDot s.cfg.mode3Len).statUpdate := Ppu.tick_on hon
  rw [htick]
  refine ⟨rfl, ?_⟩
  have hrises : s.ppu.tickStat s.cfg.mode3Len = (!s.ppu.statLine && (s.ppu.moveDot s.cfg.mode3Len).statUpdate.statSignal) := by
    rw [Ppu.tickStat, hon, Bool.true_and, Ppu.statRises, s.ppu.moveDot_statLine, Ppu.statUpdate_statSignal]
  rw [Bool.eq_iff_iff, Bool.or_eq_true, ← hrises, ← s.requests_stat]
  exact s.getLsbD_tick_flags .stat

/-- What a write that runs `stat_update()` leaves of the STAT line and its bit of IF. -/
theorem State.withStatUpdate_stat (s : State) {p : Ppu} (hline : p.statLine = s.ppu.statLine) :
    (s.withStatUpdate p).ppu.statLine = (s.withStatUpdate p).ppu.statSignal ∧
      (s.withStatUpdate p).ints.flags.getLsbD 1 =
        (s.ints.flags.getLsbD 1 || (!s.ppu.statLine && (s.withStatUpdate p).ppu.statSignal)) := by
  have hppu : (s.withStatUpdate p).ppu = p.statUpdate := rfl
  rw [hppu, Ppu.statUpdate_statSignal]
  refine ⟨rfl, ?_⟩
  rw [Bool.eq_iff_iff, Bool.or_eq_true, ← hline]
  exact (Interrupts.getLsbD_requestIf s.ints p.statRises .stat .stat).trans (or_congr_right (and_iff_right rfl))

/-- Settles O52: a dot and the three writes end in `stat_update()`, with the line as it was before it. -/
theorem statRisingEdge : Obligations.StatRisingEdge := by
  intro line hline s t ht
  obtain rfl : line = Ppu.statSignal := funext fun p => (hline p).trans p.statSignal_eq.symm
  rcases ht with ⟨rfl, hon⟩ | ⟨v, rfl | rfl | rfl⟩
  · exact State.tick_stat hon
  · rw [s.write_register v rfl ioRegOf_lcdc]
    exact s.withStatUpdate_stat (s.ppu.storeLcdc_statLine v)
  · rw [s.write_register v rfl ioRegOf_stat]
    exact s.withStatUpdate_stat rfl
  · rw [s.write_register v rfl ioRegOf_lyc]
    exact s.withStatUpdate_stat rfl

/-! The LCD off. -/

/-- With the LCD off no time changes the PPU or requests its interrupts (61_ppu R382). -/
theorem State.advance_off {s : State} (hoff : s.ppu.lcdOn = false) (n : Nat) :
    (s.advance n).ppu = s.ppu ∧ (s.advance n).ints.flags.getLsbD 0 = s.ints.flags.getLsbD 0 ∧
      (s.advance n).ints.flags.getLsbD 1 = s.ints.flags.getLsbD 1 := by
  have hppu : ∀ m, (s.advance m).ppu = s.ppu := fun m => by
    rw [s.advance_ppu m]
    exact Function.iterate_fixed (Ppu.tick_off hoff) m
  refine ⟨hppu n, s.getLsbD_advance_flags_of_quiet n .vblank fun m _ => ?_, s.getLsbD_advance_flags_of_quiet n .stat fun m _ => ?_⟩
  · rw [State.requests_vblank, hppu m, Ppu.tickVblank, hoff]
    exact Bool.false_ne_true
  · rw [State.requests_stat, hppu m, Ppu.tickStat, hoff]
    exact Bool.false_ne_true

/-! A write of LCDC (61_ppu R363). -/

theorem Ppu.storeLcdc_lcdc (p : Ppu) (v : Byte) : (p.storeLcdc v).lcdc = v := by
  unfold Ppu.storeLcdc
  split <;> rfl

theorem Ppu.storeLcdc_of_same {p : Ppu} {v : Byte} (h : v.getLsbD 7 = p.lcdc.getLsbD 7) : p.storeLcdc v = { p with lcdc := v } := if_pos h

theorem Ppu.storeLcdc_of_switch {p : Ppu} {v : Byte} (h : v.getLsbD 7 ≠ p.lcdc.getLsbD 7) :
    p.storeLcdc v = { p with lcdc := v, ly := 0, dot := 0, mode := if v.getLsbD 7 then .oamScan else .hblank, windowLine := 0 } := if_neg h

/-- Settles O53: a write of LCDC stores it, switches the LCD when bit 7 changes, and updates the STAT line. -/
theorem lcdSwitch : Obligations.LcdSwitch := by
  intro s t v ht
  obtain rfl : t = s.withStatUpdate (s.ppu.storeLcdc v) := ht.trans (s.write_register v rfl ioRegOf_lcdc)
  have hppu : (s.withStatUpdate (s.ppu.storeLcdc v)).ppu = (s.ppu.storeLcdc v).statUpdate := rfl
  have hlcdc : (s.ppu.storeLcdc v).statUpdate.lcdc = v := s.ppu.storeLcdc_lcdc v
  refine ⟨hlcdc, (State.read_register _ rfl ioRegOf_lcdc).trans hlcdc, fun hsame => ?same, fun hswitch => ⟨?switch, ?vblank⟩, fun hv n => ?off⟩
  case same =>
    rw [hppu, Ppu.storeLcdc_of_same hsame]
    rfl
  case switch =>
    rw [hppu, Ppu.storeLcdc_of_switch hswitch]
    rfl
  case vblank => exact s.ints.requestIf_getLsbD_of_ne _ (j := .stat) (k := .vblank) (by decide)
  case off =>
    have hoff : (s.ppu.storeLcdc v).statUpdate.lcdOn = false := by rw [Ppu.lcdOn, hlcdc, hv]
    obtain ⟨hkept, hvblank, hstat⟩ := State.advance_off (s := s.withStatUpdate (s.ppu.storeLcdc v)) hoff n
    have hline : (s.ppu.storeLcdc v).statUpdate.statLine = false := by
      show (s.ppu.storeLcdc v).statUpdate.statSignal = false
      rw [Ppu.statSignal, hoff, Bool.false_and]
    refine ⟨hkept, hline, ?_, ?_, hvblank, hstat⟩
    · rw [hppu, Ppu.vramOpen, hoff]; rfl
    · rw [hppu, Ppu.oamOpen, hoff]; rfl

end Sys2Proof.Machine
end

section
/-! SUPPORT and PROOF of O56. The outputs of the channels in numbers, and their sum on each side. -/

namespace Sys2Proof.Machine

theorem ite_zero_eq_mul_toNat (b : Bool) (n : Nat) : (if b then n else 0) = n * b.toNat := by
  cases b
  · exact (Nat.mul_zero n).symm
  · exact (Nat.mul_one n).symm

/-- The duty patterns (62_apu R460), row by row. -/
theorem dutyBit_table : ∀ (d : BitVec 2) (pos : BitVec 3), (dutyBit d pos).toNat =
    (([[0, 0, 0, 0, 0, 0, 0, 1], [1, 0, 0, 0, 0, 0, 0, 1], [1, 0, 0, 0, 0, 1, 1, 1], [0, 1, 1, 1, 1, 1, 1, 0]] : List (List Nat)).getD
      d.toNat []).getD pos.toNat 0 := by
  decide

theorem Pulse.output_eq (on : Bool) (c : Pulse) :
    c.output on = if on && c.on && c.env.dacOn then c.env.vol.toNat * (dutyBit c.duty c.pos).toNat else 0 := by
  unfold Pulse.output
  cases on && c.on && c.env.dacOn
  · rfl
  · exact ite_zero_eq_mul_toNat _ _

theorem Noise.output_eq (on : Bool) (c : Noise) :
    c.output on = if on && c.on && c.env.dacOn then c.env.vol.toNat * (1 - (c.lfsr.getLsbD 0).toNat) else 0 := by
  have hnot : (!c.lfsr.getLsbD 0).toNat = 1 - (c.lfsr.getLsbD 0).toNat := by cases c.lfsr.getLsbD 0 <;> rfl
  unfold Noise.output
  cases on && c.on && c.env.dacOn
  · rfl
  · exact (ite_zero_eq_mul_toNat _ _).trans (congrArg (c.env.vol.toNat * ·) hnot)

/-- What `ch3_level` divides the sample by (62_apu R433). -/
theorem Wave.two_pow_levelShift (c : Wave) :
    2 ^ c.levelShift = match c.level.toNat with | 0 => 16 | 1 => 1 | 2 => 2 | _ => 4 := by
  unfold Wave.levelShift
  generalize c.level = level
  revert level
  decide

theorem Wave.output_eq (on : Bool) (c : Wave) :
    c.output on = if on && c.on && c.dac then
      (if c.pos.toNat % 2 = 0 then (c.wave.read (c.pos.toNat / 2)).toNat / 16 else (c.wave.read (c.pos.toNat / 2)).toNat % 16) /
        (match c.level.toNat with | 0 => 16 | 1 => 1 | 2 => 2 | _ => 4)
    else 0 := by
  rw [Wave.output, Nat.shiftRight_eq_div_pow, c.two_pow_levelShift]
  rfl

/-! Every output is a 4-bit number. -/

theorem Pulse.output_le (on : Bool) (c : Pulse) : c.output on ≤ 15 := by
  have := c.env.vol.isLt
  unfold Pulse.output
  split <;> omega

theorem Noise.output_le (on : Bool) (c : Noise) : c.output on ≤ 15 := by
  have := c.env.vol.isLt
  unfold Noise.output
  split <;> omega

theorem Wave.sample_le (c : Wave) : c.sample ≤ 15 := by
  have := (c.wave.read (c.pos.toNat / 2)).isLt
  unfold Wave.sample
  dsimp only
  split <;> omega

theorem Wave.output_le (on : Bool) (c : Wave) : c.output on ≤ 15 := by
  unfold Wave.output
  split
  · rw [Nat.shiftRight_eq_div_pow]
    exact (Nat.div_le_self _ _).trans c.sample_le
  · exact Nat.zero_le _

theorem Apu.sideSum_eq (u : Apu) (low : Nat) :
    u.sideSum low = u.ch1.output u.on * (u.nr51.getLsbD low).toNat + u.ch2.output u.on * (u.nr51.getLsbD (low + 1)).toNat +
      u.ch3.output u.on * (u.nr51.getLsbD (low + 2)).toNat + u.ch4.output u.on * (u.nr51.getLsbD (low + 3)).toNat := by
  simp only [Apu.sideSum, ite_zero_eq_mul_toNat]

theorem Apu.sideSum_le (u : Apu) (low : Nat) : u.sideSum low ≤ 60 := by
  have term : ∀ (b : Bool) {n : Nat}, n ≤ 15 → (if b then n else 0) ≤ 15 := fun b n hn => by
    split
    · exact hn
    · exact Nat.zero_le _
  have h1 := term (u.nr51.getLsbD low) (u.ch1.output_le u.on)
  have h2 := term (u.nr51.getLsbD (low + 1)) (u.ch2.output_le u.on)
  have h3 := term (u.nr51.getLsbD (low + 2)) (u.ch3.output_le u.on)
  have h4 := term (u.nr51.getLsbD (low + 3)) (u.ch4.output_le u.on)
  unfold Apu.sideSum
  omega

/-- A side's sample by its 3-bit volume and its sum: nothing is cut off (62_apu R471). -/
theorem sideSample_toNat {vol sum : Nat} (hvol : vol < 8) (hsum : sum ≤ 60) :
    (BitVec.ofNat 16 (64 * (vol + 1) * sum)).toNat = 64 * (vol + 1) * sum ∧ 64 * (vol + 1) * sum ≤ 30720 := by
  have hle : 64 * (vol + 1) * sum ≤ 64 * 8 * 60 := Nat.mul_le_mul (Nat.mul_le_mul_left 64 hvol) hsum
  exact ⟨(BitVec.toNat_ofNat ..).trans (Nat.mod_eq_of_lt (hle.trans_lt (by decide))), hle⟩

/-- Settles O56: the outputs by their equations, and a bound of 60 on each side's sum. -/
theorem mixer : Obligations.Mixer := by
  refine ⟨dutyBit_table, fun u l r out h0 h1 h2 h3 hl hr => ?_⟩
  have hout : out 0 = u.ch1.output u.on ∧ out 1 = u.ch2.output u.on ∧ out 2 = u.ch3.output u.on ∧ out 3 = u.ch4.output u.on :=
    ⟨h0.trans (u.ch1.output_eq u.on).symm, h1.trans (u.ch2.output_eq u.on).symm, h2.trans (u.ch3.output_eq u.on).symm,
      h3.trans (u.ch4.output_eq u.on).symm⟩
  simp only [hout] at hl hr
  obtain rfl : l = u.sideSum 4 := hl.trans (u.sideSum_eq 4).symm
  obtain rfl : r = u.sideSum 0 := hr.trans (u.sideSum_eq 0).symm
  have hleft : (u.nr50.extractLsb' 4 3).toNat = u.nr50.toNat / 16 % 8 := by
    rw [BitVec.extractLsb'_toNat, Nat.shiftRight_eq_div_pow]
  have hright : (u.nr50.extractLsb' 0 3).toNat = u.nr50.toNat % 8 := BitVec.extractLsb'_toNat ..
  obtain ⟨left, leftLe⟩ := sideSample_toNat (Nat.mod_lt (u.nr50.toNat / 16) (by decide : 0 < 8)) (u.sideSum_le 4)
  obtain ⟨right, rightLe⟩ := sideSample_toNat (Nat.mod_lt u.nr50.toNat (by decide : 0 < 8)) (u.sideSum_le 0)
  rw [← hleft] at left leftLe
  rw [← hright] at right rightLe
  rw [← hleft, ← hright]
  exact ⟨left, right, left.trans_le leftLe, right.trans_le rightLe⟩

end Sys2Proof.Machine
end

section
/-! SUPPORT and PROOF of O55. The clocks and ticks of the APU in numbers, and what any time adds to the queue of samples. -/

namespace Sys2Proof.Machine

theorem ofNat_toNat_add_one {w : Nat} (b : BitVec w) : BitVec.ofNat w (b.toNat + 1) = b + 1 := by
  rw [BitVec.ofNat_add, BitVec.ofNat_toNat, BitVec.setWidth_eq]
  rfl

theorem toNat_eq_zero_iff {w : Nat} (b : BitVec w) : b.toNat = 0 ↔ b = 0 :=
  ⟨fun h => BitVec.eq_of_toNat_eq (h.trans BitVec.toNat_zero.symm), fun h => h ▸ BitVec.toNat_zero⟩

/-- The countdowns end where at most 1 is left. -/
theorem sub_one_eq_zero_iff (n : Nat) : n - 1 = 0 ↔ ¬ 1 < n := by omega

/-! The frame sequencer's clocks (62_apu R451 to R455). -/

theorem Apu.fsClock_eq (u : Apu) (k : BitVec 3) :
    u.fsClock k =
      if k.toNat = 7 then u.envClock
      else if k.toNat = 2 ∨ k.toNat = 6 then u.lengthClock.sweepClock
      else if k.toNat % 2 = 0 then u.lengthClock
      else u := by
  revert k
  refine bits3_cases ?_ ?_ ?_ ?_ ?_ ?_ ?_ ?_ <;> rfl

theorem lenAfterClock_eq (en : Bool) (n : Nat) : lenAfterClock en n = if en = true ∧ 0 < n then n - 1 else n := by
  unfold lenAfterClock
  cases en
  · rfl
  · simp only [if_true, true_and]
    split <;> omega

theorem onAfterLenClock_eq (en : Bool) (n : Nat) (on : Bool) :
    onAfterLenClock en n on = if en = true ∧ 0 < n ∧ lenAfterClock en n = 0 then false else on := by
  unfold onAfterLenClock lenAfterClock
  cases en
  · simp
  · have hlast : 0 < n ∧ n - 1 = 0 ↔ n = 1 := by omega
    simp [hlast]

/-- The volume after a step of the envelope, which stops at 0 and 15 (62_apu R453). -/
theorem envelopeStep_eq : ∀ (up : Bool) (vol : BitVec 4),
    (if up then (if vol.toNat < 15 then vol + 1 else vol) else (if 0 < vol.toNat then vol - 1 else vol)) =
      BitVec.ofNat 4 (if up = true then min 15 (vol.toNat + 1) else vol.toNat - 1) := by
  decide

theorem Envelope.clock_eq (e : Envelope) :
    e.clock =
      if e.runPeriod.toNat = 0 then e
      else if 1 < e.timer then { e with timer := e.timer - 1 }
      else { e with
        timer := e.runPeriod.toNat
        vol := BitVec.ofNat 4 (if e.runDir = true then min 15 (e.vol.toNat + 1) else e.vol.toNat - 1) } := by
  rw [Envelope.clock, envelopeStep_eq]
  simp only [toNat_eq_zero_iff, sub_one_eq_zero_iff, ite_not]

theorem Sweep.next_eq (w : Sweep) :
    w.next =
      if w.negate then w.shadow.toNat - w.shadow.toNat / 2 ^ w.shift.toNat
      else w.shadow.toNat + w.shadow.toNat / 2 ^ w.shift.toNat := by
  rw [Sweep.next, Nat.shiftRight_eq_div_pow]

/-- `sweep_clock()` by the sweep unit with its countdown reloaded. -/
theorem sweepClock_reloaded (v : Sweep) (c : Pulse) {w : Sweep} (hw : w = { v with timer := v.reload }) :
    sweepClock v c =
      if v.timer - 1 = 0 then
        if v.enabled && decide (v.period ≠ 0) then
          if w.fits && decide (w.shift ≠ 0) then
            ({ w with shadow := BitVec.ofNat 11 w.next },
              { c with freq := BitVec.ofNat 11 w.next, on := c.on && Sweep.fits { w with shadow := BitVec.ofNat 11 w.next } })
          else (w, { c with on := c.on && w.fits })
        else (w, c)
      else ({ v with timer := v.timer - 1 }, c) := by
  rw [hw]
  rfl

theorem Apu.sweepClock_eq (u : Apu) {w w' : Sweep} (hw : w = { u.sweep with timer := u.sweep.reload })
    (hw' : w' = { w with shadow := BitVec.ofNat 11 w.next }) :
    u.sweepClock =
      if 1 < u.sweep.timer then { u with sweep := { u.sweep with timer := u.sweep.timer - 1 } }
      else if u.sweep.enabled = false ∨ u.sweep.period.toNat = 0 then { u with sweep := w }
      else if 2047 < w.next then { u with sweep := w, ch1 := { u.ch1 with on := false } }
      else if w.shift.toNat = 0 then { u with sweep := w }
      else { u with
        sweep := w'
        ch1 := { u.ch1 with freq := BitVec.ofNat 11 w.next, on := u.ch1.on && decide (w'.next ≤ 2047) } } := by
  rw [Apu.sweepClock, sweepClock_reloaded u.sweep u.ch1 hw, ← hw']
  simp only [sub_one_eq_zero_iff, toNat_eq_zero_iff]
  by_cases htimer : 1 < u.sweep.timer
  · rw [if_pos htimer, if_neg (not_not_intro htimer)]
  rw [if_neg htimer, if_pos htimer]
  by_cases hidle : u.sweep.enabled = false ∨ u.sweep.period = 0
  · have hstill : (u.sweep.enabled && decide (u.sweep.period ≠ 0)) = false := by
      rcases hidle with h | h <;> simp [h]
    rw [if_pos hidle, hstill]
    rfl
  have hrun : (u.sweep.enabled && decide (u.sweep.period ≠ 0)) = true := by
    obtain ⟨henabled, hperiod⟩ := not_or.mp hidle
    rw [Bool.eq_true_of_not_eq_false henabled, decide_eq_true hperiod, Bool.and_self]
  rw [if_neg hidle, hrun]
  by_cases hover : 2047 < w.next
  · have hfits : w.fits = false := decide_eq_false (Nat.not_le_of_lt hover)
    rw [if_pos hover, hfits, Bool.and_false]
    rfl
  have hfits : w.fits = true := decide_eq_true (Nat.le_of_not_lt hover)
  rw [if_neg hover, hfits, Bool.true_and, Bool.and_true]
  by_cases hzero : w.shift = 0
  · rw [if_pos hzero, hzero]
    rfl
  · rw [if_neg hzero, decide_eq_true hzero]
    rfl

/-! The ticks of the channels (62_apu R460 to R462). -/

theorem Pulse.tick_eq (c : Pulse) :
    c.tick =
      if 1 < c.timer then { c with timer := c.timer - 1 }
      else { c with timer := (2048 - c.freq.toNat) * 4, pos := BitVec.ofNat 3 (c.pos.toNat + 1) } := by
  rw [Pulse.tick, Pulse.periodT, ofNat_toNat_add_one]
  simp only [sub_one_eq_zero_iff, ite_not]

theorem Wave.tick_eq (c : Wave) :
    c.tick =
      if 1 < c.timer then { c with timer := c.timer - 1 }
      else { c with timer := (2048 - c.freq.toNat) * 2, pos := BitVec.ofNat 5 (c.pos.toNat + 1) } := by
  rw [Wave.tick, Wave.periodT, ofNat_toNat_add_one]
  simp only [sub_one_eq_zero_iff, ite_not]

theorem Noise.periodT_eq (c : Noise) : c.periodT = (if c.div = 0 then 8 else 16 * c.div.toNat) * 2 ^ c.shift.toNat := Nat.shiftLeft_eq ..

/-- A 15-bit register moved down by one, `x` entering at the top. -/
theorem getLsbD_shiftIn (x : Bool) (l : BitVec 15) {k : Nat} (hk : k < 15) :
    BitVec.getLsbD (w := 1 + 14) (BitVec.ofBool x ++ l.extractLsb' 1 14) k = if k = 14 then x else l.getLsbD (k + 1) := by
  rw [BitVec.getLsbD_append, BitVec.getLsbD_extractLsb', BitVec.getLsbD_ofBool, Nat.add_comm 1 k]
  by_cases htop : k = 14
  · simp [htop]
  · simp [htop, show k < 14 by omega]

/-- Bit 6 of a 15-bit register replaced by `x`. -/
theorem getLsbD_replace6 (x : Bool) (l : BitVec 15) {k : Nat} (hk : k < 15) :
    BitVec.getLsbD (w := 8 + 1 + 6) (l.extractLsb' 7 8 ++ BitVec.ofBool x ++ l.extractLsb' 0 6) k = if k = 6 then x else l.getLsbD k := by
  rw [BitVec.getLsbD_append, BitVec.getLsbD_append, BitVec.getLsbD_extractLsb', BitVec.getLsbD_extractLsb', BitVec.getLsbD_ofBool]
  rcases Nat.lt_trichotomy k 6 with h | rfl | h
  · simp [h, h.ne]
  · simp
  · have hhigh : 7 + (k - 6 - 1) = k := by omega
    simp [h.ne', show ¬ k < 6 by omega, show k - 6 ≠ 0 by omega, show k - 6 - 1 < 8 by omega, hhigh]

/-- The shift register moves down by one, the feedback bit enters at the top, and at bit 6 too in the narrow form. -/
theorem Noise.getLsbD_shiftLfsr (c : Noise) {k : Nat} (hk : k < 15) :
    c.shiftLfsr.getLsbD k =
      if k = 14 ∨ (k = 6 ∧ c.width = true) then c.lfsr.getLsbD 0 ^^ c.lfsr.getLsbD 1 else c.lfsr.getLsbD (k + 1) := by
  have hwide := getLsbD_shiftIn (c.lfsr.getLsbD 0 ^^ c.lfsr.getLsbD 1) c.lfsr hk
  unfold Noise.shiftLfsr
  cases c.width
  · simpa using hwide
  · have hnarrow := (getLsbD_replace6 (c.lfsr.getLsbD 0 ^^ c.lfsr.getLsbD 1) _ hk).trans (by rw [hwide])
    refine hnarrow.trans ?_
    by_cases h6 : k = 6 <;> simp [h6]

/-! One T-cycle and many. -/

theorem Apu.sequence_eq (u : Apu) :
    u.sequence =
      if u.fsCounter + 1 = 8192 then { u.fsClock u.fsStep with fsCounter := 0, fsStep := BitVec.ofNat 3 (u.fsStep.toNat + 1) }
      else { u with fsCounter := u.fsCounter + 1 } := by
  rw [Apu.sequence, ofNat_toNat_add_one]

/-- The frame sequencer's clocks leave the queue and its countdown. -/
theorem Apu.fsClock_samples (u : Apu) (k : BitVec 3) : (u.fsClock k).queue = u.queue ∧ (u.fsClock k).sampleCounter = u.sampleCounter := by
  revert k
  refine bits3_cases ?_ ?_ ?_ ?_ ?_ ?_ ?_ ?_ <;> exact ⟨rfl, rfl⟩

theorem Apu.sequence_samples (u : Apu) : u.sequence.queue = u.queue ∧ u.sequence.sampleCounter = u.sampleCounter := by
  unfold Apu.sequence
  split
  · exact u.fsClock_samples u.fsStep
  · exact ⟨rfl, rfl⟩

theorem Apu.tick_eq (u : Apu) (period : Nat) {m : Apu} (hm : m = if u.on then u.sequence.channels else u) :
    u.tick period =
      if u.sampleCounter + 1 = period then { m with sampleCounter := 0, queue := u.queue ++ [m.mix] }
      else { m with sampleCounter := u.sampleCounter + 1 } := by
  have hsamples : m.queue = u.queue ∧ m.sampleCounter = u.sampleCounter := by
    rw [hm]
    split
    · exact u.sequence_samples
    · exact ⟨rfl, rfl⟩
  rw [Apu.tick, ← hm, Apu.sampling, hsamples.1, hsamples.2]

theorem Apu.tick_of_full {u : Apu} {period : Nat} (h : u.sampleCounter + 1 = period) :
    (u.tick period).sampleCounter = 0 ∧ ∃ q, (u.tick period).queue = u.queue ++ [q] := by
  rw [u.tick_eq period rfl, if_pos h]
  exact ⟨rfl, _, rfl⟩

theorem Apu.tick_of_not_full {u : Apu} {period : Nat} (h : u.sampleCounter + 1 ≠ period) :
    (u.tick period).sampleCounter = u.sampleCounter + 1 ∧ (u.tick period).queue = u.queue := by
  have hsame := u.tick_eq period rfl
  rw [if_neg h] at hsame
  rw [hsame]
  refine ⟨rfl, ?_⟩
  show (if u.on then u.sequence.channels else u).queue = u.queue
  split
  · exact u.sequence_samples.1
  · rfl

/-- Time appends one sample per period, after those already there (62_apu R472, R480). -/
theorem Apu.iterate_tick_samples {period : Nat} (n : Nat) {u : Apu} (h : u.sampleCounter < period) :
    (∃ new : List Sample, ((Apu.tick period)^[n] u).queue = u.queue ++ new ∧ new.length = (u.sampleCounter + n) / period) ∧
      ((Apu.tick period)^[n] u).sampleCounter = (u.sampleCounter + n) % period := by
  induction n generalizing u with
  | zero => exact ⟨⟨[], (List.append_nil _).symm, (Nat.div_eq_of_lt h).symm⟩, (Nat.mod_eq_of_lt h).symm⟩
  | succ n ih =>
    rw [Function.iterate_succ_apply]
    by_cases hfull : u.sampleCounter + 1 = period
    · obtain ⟨hcounter, q, hqueue⟩ := Apu.tick_of_full hfull
      have hpos : 0 < period := Nat.zero_lt_of_lt h
      have hsum : u.sampleCounter + (n + 1) = n + period := by omega
      obtain ⟨⟨new, hnew, hlength⟩, hrest⟩ := ih (u := u.tick period) (hcounter ▸ hpos)
      rw [hcounter, Nat.zero_add] at hlength hrest
      rw [hsum, Nat.add_div_right n hpos, Nat.add_mod_right, hnew, hqueue]
      exact ⟨⟨q :: new, List.append_cons .. |>.symm, congrArg (· + 1) hlength⟩, hrest⟩
    · obtain ⟨hcounter, hqueue⟩ := Apu.tick_of_not_full hfull
      have hlt : u.sampleCounter + 1 < period := by omega
      have hsum : u.sampleCounter + (n + 1) = u.sampleCounter + 1 + n := by omega
      rw [hsum, ← hqueue, ← hcounter]
      exact ih (hcounter ▸ hlt)

/-- Settles O55: each clock and tick by its equation, and an induction over the T-cycles for the queue. -/
theorem sampleQueue : Obligations.SampleQueue := by
  refine ⟨Apu.fsClock_eq, fun len on hlen hon u => ?length, fun env henv u => ?envelope, fun next hnext u w w' hw hw' => ?sweep,
    Pulse.tick_eq, Wave.tick_eq, fun c x r hx hr => ?noise, fun u f m period hf hm => ?tick, fun s n hpos hlt => ?queue⟩
  case length =>
    obtain rfl : len = lenAfterClock := funext₂ fun en n => (hlen en n).trans (lenAfterClock_eq en n).symm
    obtain rfl : on = onAfterLenClock := by
      funext en n b
      rw [hon, onAfterLenClock_eq]
    rfl
  case envelope =>
    obtain rfl : env = Envelope.clock := funext fun e => (henv e).trans e.clock_eq.symm
    rfl
  case sweep =>
    obtain rfl : next = Sweep.next := funext fun w => (hnext w).trans w.next_eq.symm
    have hreload : u.sweep.reload = if u.sweep.period.toNat = 0 then 8 else u.sweep.period.toNat := by
      simp only [Sweep.reload, toNat_eq_zero_iff]
    exact u.sweepClock_eq (hreload ▸ hw) hw'
  case noise =>
    obtain rfl : r = c.shiftLfsr := by
      apply BitVec.eq_of_getLsbD_eq
      intro k hk
      rw [hr k hk, c.getLsbD_shiftLfsr hk, hx]
    rw [Noise.tick, c.periodT_eq]
    simp only [toNat_eq_zero_iff, sub_one_eq_zero_iff, ite_not]
  case tick =>
    rw [← u.sequence_eq] at hf
    exact u.tick_eq period (hf ▸ hm)
  case queue =>
    rw [s.advance_apu n]
    obtain ⟨hqueue, hcounter⟩ := Apu.iterate_tick_samples n hlt
    exact ⟨hqueue, hcounter, rfl, rfl⟩

end Sys2Proof.Machine
end

section
/-! SUPPORT and PROOF of O57. What the registers of the APU store and read, in numbers, and the triggers. -/

namespace Sys2Proof.Machine

/-! A byte's fields in numbers. -/

theorem extractLsb'_eq_ofNat (v : Byte) (i len : Nat) : v.extractLsb' i len = BitVec.ofNat len (v.toNat / 2 ^ i) := by
  rw [BitVec.extractLsb', Nat.shiftRight_eq_div_pow]

theorem getLsbD_eq_decide (v : Byte) (i : Nat) : v.getLsbD i = decide (v.toNat / 2 ^ i % 2 = 1) := Nat.testBit_eq_decide_div_mod_eq

theorem toNat_extractLsb'_zero (v : Byte) (len : Nat) : (v.extractLsb' 0 len).toNat = v.toNat % 2 ^ len := BitVec.extractLsb'_toNat ..

theorem getLsbD_seven_eq (v : Byte) : v.getLsbD 7 = decide (128 ≤ v.toNat) := BitVec.msb_eq_decide v

theorem getLsbD_six_eq {v : Byte} (h : v.toNat < 128) : v.getLsbD 6 = decide (64 ≤ v.toNat) := by
  rw [getLsbD_eq_decide, decide_eq_decide]
  omega

/-! The stores of an APU that is on (62_apu R422 to R442). -/

theorem Apu.storeReg_nr10 (u : Apu) (v : Byte) :
    u.storeReg .nr10 v = { u with sweep := { u.sweep with
      period := BitVec.ofNat 3 (v.toNat / 16), negate := decide (v.toNat / 8 % 2 = 1), shift := BitVec.ofNat 3 v.toNat } } := by
  rw [Apu.storeReg, extractLsb'_eq_ofNat, extractLsb'_eq_ofNat, getLsbD_eq_decide, Nat.pow_zero, Nat.div_one]
  rfl

theorem Envelope.store_eq (e : Envelope) (v : Byte) :
    e.store v =
      { e with init := BitVec.ofNat 4 (v.toNat / 16), dir := decide (v.toNat / 8 % 2 = 1), period := BitVec.ofNat 3 v.toNat } := by
  rw [Envelope.store, extractLsb'_eq_ofNat, extractLsb'_eq_ofNat, getLsbD_eq_decide, Nat.pow_zero, Nat.div_one]
  rfl

/-- The DAC is off exactly when the upper five bits of NRx2 are 0 (62_apu R466). -/
theorem Envelope.dacOn_store (e : Envelope) (v : Byte) : (e.store v).dacOn = decide (8 ≤ v.toNat) := by
  have hlt := v.isLt
  have hinit : BitVec.ofNat 4 (v.toNat / 16) = 0 ↔ v.toNat < 16 := by
    rw [← toNat_eq_zero_iff, BitVec.toNat_ofNat]
    omega
  rw [e.store_eq, Envelope.dacOn, ← Bool.decide_or, decide_eq_decide, ne_eq, hinit]
  omega

theorem Pulse.storeEnvelope_eq (c : Pulse) (v : Byte) :
    c.storeEnvelope v = { c with env := c.env.store v, on := c.on && decide (8 ≤ v.toNat) } := by
  rw [Pulse.storeEnvelope, Envelope.dacOn_store]

theorem Noise.storeEnvelope_eq (c : Noise) (v : Byte) :
    c.storeEnvelope v = { c with env := c.env.store v, on := c.on && decide (8 ≤ v.toNat) } := by
  rw [Noise.storeEnvelope, Envelope.dacOn_store]

theorem Pulse.storeLength_eq (c : Pulse) (v : Byte) :
    c.storeLength v = { c with duty := BitVec.ofNat 2 (v.toNat / 64), len := 64 - v.toNat % 64 } := by
  rw [Pulse.storeLength, extractLsb'_eq_ofNat, toNat_extractLsb'_zero]
  rfl

theorem Apu.storeReg_nr30 (u : Apu) (v : Byte) :
    u.storeReg .nr30 v =
      { u with ch3 := { u.ch3 with dac := decide (128 ≤ v.toNat), on := u.ch3.on && decide (128 ≤ v.toNat) } } := by
  rw [Apu.storeReg, getLsbD_seven_eq]

theorem Apu.storeReg_nr32 (u : Apu) (v : Byte) :
    u.storeReg .nr32 v = { u with ch3 := { u.ch3 with level := BitVec.ofNat 2 (v.toNat / 32) } } := by
  rw [Apu.storeReg, extractLsb'_eq_ofNat]
  rfl

theorem Apu.storeReg_nr41 (u : Apu) (v : Byte) :
    u.storeReg .nr41 v = { u with ch4 := { u.ch4 with len := 64 - v.toNat % 64 } } := by
  rw [Apu.storeReg, toNat_extractLsb'_zero]
  rfl

theorem Apu.storeReg_nr43 (u : Apu) (v : Byte) :
    u.storeReg .nr43 v = { u with ch4 := { u.ch4 with
      shift := BitVec.ofNat 4 (v.toNat / 16), width := decide (v.toNat / 8 % 2 = 1), div := BitVec.ofNat 3 v.toNat } } := by
  rw [Apu.storeReg, extractLsb'_eq_ofNat, extractLsb'_eq_ofNat, getLsbD_eq_decide, Nat.pow_zero, Nat.div_one]
  rfl

/-! The triggers, by bit 7 of NRx4 (62_apu R465). -/

theorem Apu.storeReg_nr14 {u : Apu} {v : Byte} (h : v.getLsbD 7 = true) :
    u.storeReg .nr14 v = Apu.trigger1 { u with ch1 := u.ch1.storeControl v } := if_pos h

theorem Apu.storeReg_nr24 {u : Apu} {v : Byte} (h : v.getLsbD 7 = true) :
    u.storeReg .nr24 v = { u with ch2 := (u.ch2.storeControl v).trigger } := by
  rw [Apu.storeReg, h]
  rfl

theorem Apu.storeReg_nr34 {u : Apu} {v : Byte} (h : v.getLsbD 7 = true) :
    u.storeReg .nr34 v = { u with ch3 := (u.ch3.storeControl v).trigger } := by
  rw [Apu.storeReg, h]
  rfl

theorem Apu.storeReg_nr44 {u : Apu} {v : Byte} (h : v.getLsbD 7 = true) :
    u.storeReg .nr44 v = { u with ch4 := Noise.trigger { u.ch4 with lenEn := v.getLsbD 6 } } := by
  rw [Apu.storeReg, h]
  rfl

/-- Without bit 7 a control register stores the length enable and the frequency's upper bits alone. -/
theorem Apu.storeReg_control {u : Apu} {v : Byte} (h : v.toNat < 128) :
    u.storeReg .nr14 v = { u with ch1 := { u.ch1 with freq := storeFreqHigh u.ch1.freq v, lenEn := decide (64 ≤ v.toNat) } } ∧
    u.storeReg .nr24 v = { u with ch2 := { u.ch2 with freq := storeFreqHigh u.ch2.freq v, lenEn := decide (64 ≤ v.toNat) } } ∧
    u.storeReg .nr34 v = { u with ch3 := { u.ch3 with freq := storeFreqHigh u.ch3.freq v, lenEn := decide (64 ≤ v.toNat) } } ∧
    u.storeReg .nr44 v = { u with ch4 := { u.ch4 with lenEn := decide (64 ≤ v.toNat) } } := by
  have h7 : v.getLsbD 7 = false := by rw [getLsbD_seven_eq, decide_eq_false (Nat.not_le_of_lt h)]
  simp only [Apu.storeReg, h7, Pulse.storeControl, Wave.storeControl, getLsbD_six_eq h, Bool.false_eq_true, if_false, and_self]

/-! The read values (62_apu R445). -/

theorem toNat_append_eq {m n : Nat} (x : BitVec m) (y : BitVec n) : (x ++ y).toNat = 2 ^ n * x.toNat + y.toNat := by
  rw [BitVec.toNat_append, ← Nat.shiftLeft_add_eq_or_of_lt y.isLt, Nat.shiftLeft_eq, Nat.mul_comm]

/-- The fields of NRx2, and of NR43: a nibble, a bit and three bits. -/
theorem nibbleBitBits_toNat (x : BitVec 4) (b : Bool) (y : BitVec 3) :
    ((x ++ BitVec.ofBool b ++ y : Byte) ||| 0).toNat = 16 * x.toNat + 8 * b.toNat + y.toNat := by
  rw [show (x ++ BitVec.ofBool b ++ y : Byte) ||| 0 = x ++ BitVec.ofBool b ++ y from BitVec.or_zero, toNat_append_eq, toNat_append_eq,
    BitVec.toNat_ofBool]
  omega

theorem nr10_toNat : ∀ (period : BitVec 3) (negate : Bool) (shift : BitVec 3),
    (((0 : BitVec 1) ++ period ++ BitVec.ofBool negate ++ shift : Byte) ||| 0x80).toNat =
      0x80 + 16 * period.toNat + 8 * negate.toNat + shift.toNat := by
  decide

theorem duty_toNat : ∀ d : BitVec 2, ((d ++ (0 : BitVec 6) : Byte) ||| 0x3F).toNat = 64 * d.toNat + 0x3F := by decide

theorem lenEnByte_toNat : ∀ en : Bool, (lenEnByte en ||| 0xBF).toNat = 0xBF + 64 * en.toNat := by decide

theorem nr30_toNat : ∀ dac : Bool, ((BitVec.ofBool dac ++ (0 : BitVec 7) : Byte) ||| 0x7F).toNat = 0x7F + 128 * dac.toNat := by decide

theorem nr32_toNat : ∀ level : BitVec 2,
    (((0 : BitVec 1) ++ level ++ (0 : BitVec 5) : Byte) ||| 0x9F).toNat = 0x9F + 32 * level.toNat := by
  decide

theorem nr52_toNat : ∀ c1 c2 c3 c4 : Bool,
    ((BitVec.ofBool true ++ (0 : BitVec 3) ++ BitVec.ofBool c4 ++ BitVec.ofBool c3 ++ BitVec.ofBool c2 ++ BitVec.ofBool c1 : Byte) |||
      0x70).toNat = 0xF0 + 8 * c4.toNat + 4 * c3.toNat + 2 * c2.toNat + c1.toNat := by
  decide

/-- A register of an APU that is on reads its stored bits and its mask, in numbers. -/
def Apu.readNumber (u : Apu) : ApuReg → Nat
  | .nr10 => 0x80 + 16 * u.sweep.period.toNat + 8 * u.sweep.negate.toNat + u.sweep.shift.toNat
  | .nr11 => 64 * u.ch1.duty.toNat + 0x3F
  | .nr12 => 16 * u.ch1.env.init.toNat + 8 * u.ch1.env.dir.toNat + u.ch1.env.period.toNat
  | .nr14 => 0xBF + 64 * u.ch1.lenEn.toNat
  | .nr21 => 64 * u.ch2.duty.toNat + 0x3F
  | .nr22 => 16 * u.ch2.env.init.toNat + 8 * u.ch2.env.dir.toNat + u.ch2.env.period.toNat
  | .nr24 => 0xBF + 64 * u.ch2.lenEn.toNat
  | .nr30 => 0x7F + 128 * u.ch3.dac.toNat
  | .nr32 => 0x9F + 32 * u.ch3.level.toNat
  | .nr34 => 0xBF + 64 * u.ch3.lenEn.toNat
  | .nr42 => 16 * u.ch4.env.init.toNat + 8 * u.ch4.env.dir.toNat + u.ch4.env.period.toNat
  | .nr43 => 16 * u.ch4.shift.toNat + 8 * u.ch4.width.toNat + u.ch4.div.toNat
  | .nr44 => 0xBF + 64 * u.ch4.lenEn.toNat
  | .nr50 => u.nr50.toNat
  | .nr51 => u.nr51.toNat
  | .nr52 => 0xF0 + 8 * u.ch4.on.toNat + 4 * u.ch3.on.toNat + 2 * u.ch2.on.toNat + u.ch1.on.toNat
  | .nr13 | .nr23 | .nr31 | .nr33 | .nr41 => 0xFF

theorem Apu.readReg_toNat {u : Apu} (h : u.on = true) (r : ApuReg) : (u.readReg r).toNat = u.readNumber r := by
  rw [Apu.readReg_on h]
  cases r with
  | nr10 => exact nr10_toNat _ _ _
  | nr11 | nr21 => exact duty_toNat _
  | nr12 | nr22 | nr42 => exact nibbleBitBits_toNat _ _ _
  | nr14 | nr24 | nr34 | nr44 => exact lenEnByte_toNat _
  | nr13 | nr23 | nr31 | nr33 | nr41 => exact congrArg BitVec.toNat BitVec.zero_or
  | nr30 => exact nr30_toNat _
  | nr32 => exact nr32_toNat _
  | nr43 => exact nibbleBitBits_toNat _ _ _
  | nr50 | nr51 => exact congrArg BitVec.toNat BitVec.or_zero
  | nr52 =>
    rw [Apu.stored, h]
    exact nr52_toNat _ _ _ _

/-- A write of a register of an APU that is on, by what it stores. -/
theorem State.write_apuStore {s : State} (hon : s.apu.on = true) {a : Word} {r : ApuReg} {v : Byte} {u : Apu} (ha : regionOf a = .io)
    (hr : ioRegOf a = .apu r) (h52 : r ≠ .nr52) (hu : s.apu.storeReg r v = u) : s.write a v = { s with apu := u } := by
  rw [s.write_apuRegister v ha hr, Apu.writeReg_on hon h52, hu]

/-- Settles O57: each register by what it stores, the triggers by their equations, and the read values by number. -/
theorem channelTriggers : Obligations.ChannelTriggers := by
  refine ⟨fun s v hon h7 => ⟨?ch1, ?ch2, ?ch3, ?ch4⟩, fun s v n put hon hn hput => ?stores, fun s u e hon hu he => ?reads⟩
  case ch1 =>
    rintro _ f _ rfl hf rfl
    obtain rfl : f = (s.apu.ch1.storeControl v).freq := hf
    refine State.write_apuStore hon rfl ioRegOf_nr14 (by decide) ((Apu.storeReg_nr14 h7).trans ?_)
    rw [Apu.trigger1, Sweep.fits_eq, Sweep.trigger, ← Bool.decide_or, ← Bool.or_assoc]
    rfl
  case ch2 =>
    rintro _ f rfl hf
    obtain rfl : f = (s.apu.ch2.storeControl v).freq := hf
    exact State.write_apuStore hon rfl ioRegOf_nr24 (by decide) (Apu.storeReg_nr24 h7)
  case ch3 =>
    rintro _ f rfl hf
    obtain rfl : f = (s.apu.ch3.storeControl v).freq := hf
    exact State.write_apuStore hon rfl ioRegOf_nr34 (by decide) (Apu.storeReg_nr34 h7)
  case ch4 =>
    rintro _ rfl
    refine State.write_apuStore hon rfl ioRegOf_nr44 (by decide) ((Apu.storeReg_nr44 h7).trans ?_)
    rw [Noise.trigger, Noise.periodT_eq]
    rfl
  case stores =>
    subst hn
    have stores : ∀ {a : Word} {r : ApuReg} {u : Apu}, regionOf a = .io → ioRegOf a = .apu r → r ≠ .nr52 → s.apu.storeReg r v = u →
        s.write a v = put u := fun ha hr h52 hu => (State.write_apuStore hon ha hr h52 hu).trans (hput _).symm
    refine ⟨stores rfl ioRegOf_nr10 (by decide) (Apu.storeReg_nr10 _ _), fun e he => ?envelopes, ?nr11, ?nr21,
      stores rfl ioRegOf_nr31 (by decide) rfl, stores rfl ioRegOf_nr41 (by decide) (Apu.storeReg_nr41 _ _), fun low high hlow hhigh => ?freqs,
      stores rfl ioRegOf_nr30 (by decide) (Apu.storeReg_nr30 _ _), stores rfl ioRegOf_nr32 (by decide) (Apu.storeReg_nr32 _ _),
      stores rfl ioRegOf_nr43 (by decide) (Apu.storeReg_nr43 _ _), stores rfl ioRegOf_nr50 (by decide) rfl,
      stores rfl ioRegOf_nr51 (by decide) rfl⟩
    case envelopes =>
      obtain rfl : e = fun x => x.store v := funext fun x => (he x).trans (x.store_eq v).symm
      refine ⟨stores rfl ioRegOf_nr12 (by decide) ?_, stores rfl ioRegOf_nr22 (by decide) ?_, stores rfl ioRegOf_nr42 (by decide) ?_⟩
      · rw [Apu.storeReg, Pulse.storeEnvelope_eq]
      · rw [Apu.storeReg, Pulse.storeEnvelope_eq]
      · rw [Apu.storeReg, Noise.storeEnvelope_eq]
    case nr11 => exact stores rfl ioRegOf_nr11 (by decide) (by rw [Apu.storeReg, Pulse.storeLength_eq])
    case nr21 => exact stores rfl ioRegOf_nr21 (by decide) (by rw [Apu.storeReg, Pulse.storeLength_eq])
    case freqs =>
      obtain rfl : low = fun f => storeFreqLow f v := funext fun f => (hlow f).trans (storeFreqLow_eq f v).symm
      obtain rfl : high = fun f => storeFreqHigh f v := funext fun f => (hhigh f).trans (storeFreqHigh_eq f v).symm
      refine ⟨stores rfl ioRegOf_nr13 (by decide) rfl, stores rfl ioRegOf_nr23 (by decide) rfl, stores rfl ioRegOf_nr33 (by decide) rfl,
        fun h => ?_⟩
      obtain ⟨h1, h2, h3, h4⟩ := Apu.storeReg_control (u := s.apu) h
      exact ⟨stores rfl ioRegOf_nr14 (by decide) h1, stores rfl ioRegOf_nr24 (by decide) h2, stores rfl ioRegOf_nr34 (by decide) h3,
        stores rfl ioRegOf_nr44 (by decide) h4⟩
  case reads =>
    subst hu
    obtain rfl : e = fun x => 16 * x.init.toNat + 8 * x.dir.toNat + x.period.toNat := funext he
    have hread : ∀ k < 23, (s.read (0xFF10 + BitVec.ofNat 16 k)).toNat =
        (apuRegAt (0x10 + k)).elim s.cfg.openBus.toNat s.apu.readNumber := fun k hk => by
      rw [s.read_apuPage (hk.trans (by decide))]
      cases apuRegAt (0x10 + k) with
      | none => rfl
      | some r => exact Apu.readReg_toNat hon r
    rw [List.map_congr_left fun k hk => hread k (List.mem_range.mp hk)]
    rfl

end Sys2Proof.Machine
end

section
/-! SUPPORT and PROOF of O58. The APU switched off and on, and the APU while it is off. -/

namespace Sys2Proof.Machine

theorem apuPage_toNat {k : Nat} (hk : k < 0x20) : (0xFF10 + BitVec.ofNat 16 k : Word).toNat = 0xFF10 + k := by
  rw [BitVec.toNat_add, BitVec.toNat_ofNat, show BitVec.toNat (0xFF10 : Word) = 0xFF10 from rfl]
  omega

/-- A write in the APU's page of I/O registers (20_memory R71, R74). -/
theorem State.write_apuPageReg (s : State) {k : Nat} (hk : k < 0x20) (v : Byte) :
    s.write (0xFF10 + BitVec.ofNat 16 k) v = (apuRegAt (0x10 + k)).elim s fun r => { s with apu := s.apu.writeReg r v } := by
  have ha := apuPage_toNat hk
  have hoff : 0xFF10 + k - 0xFF00 = 0x10 + k := by omega
  rw [s.write_register v (regionOf_eq_io (by omega) (by omega)) rfl, ioRegOf, ha, hoff]
  rw [if_pos (by omega)]
  cases apuRegAt (0x10 + k) <;> rfl

/-- NR52 stands at 0xFF26 alone. -/
theorem apuRegAt_ne_nr52 {k : Nat} (hk : k < 0x26) : apuRegAt k ≠ some .nr52 := by
  unfold apuRegAt
  split
  case h_21 => omega
  all_goals exact fun h => nomatch h

/-! The APU off (62_apu R444). -/

theorem Apu.mix_off {u : Apu} (h : u.on = false) : u.mix = (0, 0) := by
  have hsum : ∀ low, u.sideSum low = 0 := fun low => by
    simp [Apu.sideSum, Pulse.output, Wave.output, Noise.output, h]
  rw [Apu.mix, hsum, hsum]
  rfl

/-- A tick of an APU that is off counts towards the next sample, which is silent. -/
theorem Apu.tick_off {u : Apu} (h : u.on = false) (period : Nat) :
    u.tick period = { u with queue := (u.tick period).queue, sampleCounter := (u.tick period).sampleCounter } ∧
      ∀ q ∈ (u.tick period).queue, q ∈ u.queue ∨ q = (0, 0) := by
  have hstill : u = if u.on then u.sequence.channels else u := by rw [h]; rfl
  rw [u.tick_eq period hstill, Apu.mix_off h]
  split
  · exact ⟨rfl, fun q hq => by simpa using hq⟩
  · exact ⟨rfl, fun q hq => Or.inl hq⟩

theorem Apu.iterate_tick_off (period n : Nat) {u : Apu} (h : u.on = false) :
    (Apu.tick period)^[n] u =
        { u with queue := ((Apu.tick period)^[n] u).queue, sampleCounter := ((Apu.tick period)^[n] u).sampleCounter } ∧
      ∀ q ∈ ((Apu.tick period)^[n] u).queue, q ∈ u.queue ∨ q = (0, 0) := by
  induction n with
  | zero => exact ⟨rfl, fun q hq => Or.inl hq⟩
  | succ n ih =>
    rw [Function.iterate_succ_apply']
    generalize (Apu.tick period)^[n] u = w at ih ⊢
    obtain ⟨hsame, hsilent⟩ := ih
    have hoff : w.on = false := (congrArg Apu.on hsame).trans h
    obtain ⟨hsame', hsilent'⟩ := Apu.tick_off hoff period
    refine ⟨hsame'.trans ?_, fun q hq => ?_⟩
    · exact congrArg (fun x : Apu => { x with queue := (w.tick period).queue, sampleCounter := (w.tick period).sampleCounter }) hsame
    · rcases hsilent' q hq with hq' | hq'
      · exact hsilent q hq'
      · exact Or.inr hq'

/-- While the APU is off its page reads as the masks, but NR52 (62_apu R444, R445). -/
theorem State.apuPage_off {s : State} (h : s.apu.on = false) :
    ((List.range 22).map fun k => s.read (0xFF10 + BitVec.ofNat 16 k)) =
      [0x80, 0x3F, 0x00, 0xFF, 0xBF, s.cfg.openBus, 0x3F, 0x00, 0xFF, 0xBF, 0x7F, 0xFF, 0x9F, 0xFF, 0xBF, s.cfg.openBus, 0xFF, 0x00,
       0x00, 0xBF, 0x00, 0x00] := by
  have hread : ∀ k < 22, s.read (0xFF10 + BitVec.ofNat 16 k) = (apuRegAt (0x10 + k)).elim s.cfg.openBus ApuReg.mask := fun k hk => by
    rw [s.read_apuPage (hk.trans (by decide))]
    have hne : apuRegAt (0x10 + k) ≠ some .nr52 := apuRegAt_ne_nr52 (by omega)
    cases hr : apuRegAt (0x10 + k) with
    | none => rfl
    | some r => exact Apu.readReg_off h fun h52 => hne (hr.trans (congrArg some h52))
  rw [List.map_congr_left fun k hk => hread k (List.mem_range.mp hk)]
  rfl

/-- While the APU is off every register but NR52 ignores writes. -/
theorem State.write_apuPage_off {s : State} (h : s.apu.on = false) {k : Nat} (hk : k < 0x16) (v : Byte) :
    s.write (0xFF10 + BitVec.ofNat 16 k) v = s := by
  rw [s.write_apuPageReg (hk.trans (by decide))]
  have hne : apuRegAt (0x10 + k) ≠ some .nr52 := apuRegAt_ne_nr52 (by omega)
  cases hr : apuRegAt (0x10 + k) with
  | none => rfl
  | some r =>
    have h52 : r ≠ .nr52 := fun h52 => hne (hr.trans (congrArg some h52))
    show { s with apu := s.apu.writeReg r v } = s
    rw [Apu.writeReg_off h h52]

/-- Wave RAM is stored whether the APU is on or off (62_apu R440). -/
theorem State.write_waveRam (s : State) {k : Nat} (hk : k < 16) (v : Byte) :
    (s.write (0xFF30 + BitVec.ofNat 16 k) v).apu.ch3.wave.read k = v := by
  have ha : (0xFF30 + BitVec.ofNat 16 k : Word).toNat = 0xFF30 + k := by
    rw [BitVec.toNat_add, BitVec.toNat_ofNat, show BitVec.toNat (0xFF30 : Word) = 0xFF30 from rfl]
    omega
  have hreg : ioRegOf (0xFF30 + BitVec.ofNat 16 k) = .wave k := by
    rw [ioRegOf_waveRam (by omega) (by omega), ha, Nat.add_sub_cancel_left]
  rw [s.write_register v (regionOf_eq_io (by omega) (by omega)) hreg]
  exact Memory.read_write_same _ k v

/-! The switch (62_apu R443, R444). -/

theorem State.write_nr52_keep {s : State} {v : Byte} (h : v.getLsbD 7 = s.apu.on) : s.write 0xFF26 v = s := by
  rw [s.write_apuRegister v rfl ioRegOf_nr52, Apu.writeReg_nr52, if_pos h]

theorem State.write_nr52_off {s : State} {v : Byte} (hon : s.apu.on = true) (h : v.getLsbD 7 = false) :
    s.write 0xFF26 v = { s with apu := s.apu.powerOff } := by
  rw [s.write_apuRegister v rfl ioRegOf_nr52, Apu.writeReg_nr52, h, hon]
  rfl

theorem State.write_nr52_on {s : State} {v : Byte} (hoff : s.apu.on = false) (h : v.getLsbD 7 = true) :
    s.write 0xFF26 v = { s with apu := s.apu.powerOn } := by
  rw [s.write_apuRegister v rfl ioRegOf_nr52, Apu.writeReg_nr52, h, hoff]
  rfl

/-- After power-off and power-on the registers read as cleared. -/
theorem State.apuPage_restarted {s : State} {u : Apu} (h : s.apu = u.powerOff.powerOn) :
    ((List.range 23).map fun k => s.read (0xFF10 + BitVec.ofNat 16 k)) =
      [0x80, 0x3F, 0x00, 0xFF, 0xBF, s.cfg.openBus, 0x3F, 0x00, 0xFF, 0xBF, 0x7F, 0xFF, 0x9F, 0xFF, 0xBF, s.cfg.openBus, 0xFF, 0x00,
       0x00, 0xBF, 0x00, 0x00, 0xF0] := by
  have hread : ∀ r, u.powerOff.powerOn.readReg r = BitVec.ofNat 8 (u.powerOff.powerOn.readNumber r) := fun r => by
    rw [← Apu.readReg_toNat rfl, BitVec.ofNat_toNat, BitVec.setWidth_eq]
  rw [List.map_congr_left fun k hk => s.read_apuPage ((List.mem_range.mp hk).trans (by decide)), h, funext hread]
  rfl

/-- Settles O58: the two switches by their records, and an APU that is off by the lemmas above. -/
theorem apuPower : Obligations.ApuPower := by
  refine ⟨fun s v h => State.write_nr52_keep h, fun s t v hon hv ht => ?_⟩
  obtain rfl : t = { s with apu := s.apu.powerOff } := ht.trans (State.write_nr52_off hon hv)
  have hoff : s.apu.powerOff.on = false := rfl
  refine ⟨fun p e he hp => ?record, hoff, ?nr52, State.apuPage_off hoff, ⟨rfl, rfl, rfl, rfl⟩, ⟨rfl, rfl, rfl, rfl⟩,
    ⟨rfl, rfl, rfl⟩, rfl, fun k x hk => State.write_apuPage_off hoff hk x,
    fun k x hk => State.write_waveRam _ hk x, fun n => ?time, fun x hx => ?restart⟩
  case record =>
    obtain rfl : e = Envelope.powerOff := funext he
    obtain rfl : p = Pulse.powerOff := funext hp
    rfl
  case nr52 =>
    have hzero : (BitVec.ofBool false ++ (0 : BitVec 3) ++ BitVec.ofBool false ++ BitVec.ofBool false ++ BitVec.ofBool false ++
        BitVec.ofBool false : Byte) ||| 0x70 = 0x70 := by decide
    exact (State.read_apuRegister _ rfl ioRegOf_nr52).trans hzero
  case time =>
    rw [State.advance_apu]
    exact Apu.iterate_tick_off _ n hoff
  case restart =>
    rw [State.write_nr52_on hoff hx]
    exact ⟨rfl, State.apuPage_restarted rfl⟩

end Sys2Proof.Machine
end

section
/-! SUPPORT and PROOF of O54. Tiles, maps, sprites and palettes in numbers, the winning sprite, and the row that is drawn. -/

namespace Sys2Proof.Machine

/-! Tiles, maps and palettes (61_ppu R370, R396, R397). -/

theorem Ppu.tileAddr_eq (p : Ppu) (n : Byte) :
    p.tileAddr n =
      if p.lcdc.getLsbD 4 then 0x8000 + 16 * n.toNat else if n.toNat < 128 then 0x9000 + 16 * n.toNat else 0x8000 + 16 * n.toNat := by
  have hsigned : tileAddrSigned n = if n.toNat < 128 then 0x9000 + 16 * n.toNat else 0x8000 + 16 * n.toNat := by
    have hn := n.isLt
    unfold tileAddrSigned
    rw [BitVec.toInt_eq_toNat_cond]
    split <;> split <;> omega
  rw [Ppu.tileAddr, hsigned, tileAddrUnsigned]

theorem toNat_ofBool_append_ofBool : ∀ hi lo : Bool, (BitVec.ofBool hi ++ BitVec.ofBool lo : BitVec 2).toNat = 2 * hi.toNat + lo.toNat := by
  decide

theorem paletteShade_toNat (palette : Byte) (c : BitVec 2) : (paletteShade palette c).toNat = palette.toNat / 4 ^ c.toNat % 4 := by
  rw [paletteShade, BitVec.extractLsb'_toNat, Nat.shiftRight_eq_div_pow, Nat.pow_mul]

theorem toNat_and_0xFE : ∀ n : Byte, (n &&& 0xFE).toNat = n.toNat / 2 * 2 := by decide

/-! The winning sprite (R402). -/

/-- A sprite that is transparent at (x, y) or does not stand left of `lo`. -/
def Ppu.NotLeftOf (p : Ppu) (x y lo : Nat) (e : Sprite) : Prop :=
  p.spriteColour e x y = none ∨ p.spriteColour e x y = some 0 ∨ lo ≤ e.x

theorem Ppu.NotLeftOf.mono {p : Ppu} {x y lo lo' : Nat} {e : Sprite} (hle : lo' ≤ lo) (h : p.NotLeftOf x y lo e) : p.NotLeftOf x y lo' e :=
  h.imp_right (Or.imp_right hle.trans)

/-- `e` is opaque with colour `c`, and stands left of every opaque sprite before it and not right of those after it. -/
def Ppu.Wins (p : Ppu) (x y : Nat) (sel : List Sprite) (e : Sprite) (c : BitVec 2) : Prop :=
  c ≠ 0 ∧ p.spriteColour e x y = some c ∧
    ∃ before after : List Sprite, sel = before ++ e :: after ∧ (∀ e' ∈ before, p.NotLeftOf x y (e.x + 1) e') ∧
      ∀ e' ∈ after, p.NotLeftOf x y e.x e'

/-- A sprite that does not beat the winner may stand in front of it. -/
theorem Ppu.Wins.cons {p : Ppu} {x y : Nat} {sel : List Sprite} {e d : Sprite} {c : BitVec 2} (h : p.Wins x y sel e c)
    (hd : p.NotLeftOf x y (e.x + 1) d) : p.Wins x y (d :: sel) e c := by
  obtain ⟨hc, hcolour, before, after, hsplit, hbefore, hafter⟩ := h
  exact ⟨hc, hcolour, d :: before, after, congrArg (d :: ·) hsplit, List.forall_mem_cons.mpr ⟨hd, hbefore⟩, hafter⟩

/-- An opaque sprite in front that is not right of the winner wins itself. -/
theorem Ppu.Wins.head {p : Ppu} {x y : Nat} {sel : List Sprite} {e d : Sprite} {c cd : BitVec 2} (h : p.Wins x y sel e c)
    (hcd : cd ≠ 0) (hd : p.spriteColour d x y = some cd) (hle : d.x ≤ e.x) : p.Wins x y (d :: sel) d cd := by
  obtain ⟨-, -, before, after, rfl, hbefore, hafter⟩ := h
  refine ⟨hcd, hd, [], before ++ e :: after, rfl, fun _ he => absurd he List.not_mem_nil, fun e' he => ?_⟩
  rcases List.mem_append.mp he with he | he
  · exact (hbefore e' he).mono (hle.trans (Nat.le_succ _))
  · rcases List.mem_cons.mp he with rfl | he
    · exact .inr (.inr hle)
    · exact (hafter e' he).mono hle

/-- A transparent sprite leaves the choice to the rest. -/
theorem Ppu.winner_cons_of_transparent {p : Ppu} {x y : Nat} {e : Sprite} (rest : List Sprite)
    (h : p.spriteColour e x y = none ∨ p.spriteColour e x y = some 0) : p.winner x y (e :: rest) = p.winner x y rest := by
  rw [Ppu.winner]
  rcases h with h | h <;> rw [h]
  cases p.winner x y rest <;> rfl

/-- An opaque sprite gives way only to a winner of the rest with a smaller X. -/
theorem Ppu.winner_cons_of_opaque {p : Ppu} {x y : Nat} {e : Sprite} {c : BitVec 2} (rest : List Sprite)
    (h : p.spriteColour e x y = some c) (hc : c ≠ 0) :
    p.winner x y (e :: rest) =
      (p.winner x y rest).elim (some (e, c)) fun w => if w.1.x < e.x then some w else some (e, c) := by
  rw [Ppu.winner, h]
  cases p.winner x y rest with
  | none => exact if_neg hc
  | some w => exact if_neg hc

theorem Ppu.transparent_or_opaque (p : Ppu) (e : Sprite) (x y : Nat) :
    (p.spriteColour e x y = none ∨ p.spriteColour e x y = some 0) ∨ ∃ c, p.spriteColour e x y = some c ∧ c ≠ 0 := by
  cases h : p.spriteColour e x y with
  | none => exact .inl (.inl rfl)
  | some c =>
    by_cases hc : c = 0
    · exact .inl (.inr (congrArg some hc))
    · exact .inr ⟨c, rfl, hc⟩

theorem Ppu.winner_eq_none_iff (p : Ppu) (x y : Nat) (sel : List Sprite) :
    p.winner x y sel = none ↔ ∀ e ∈ sel, p.spriteColour e x y = none ∨ p.spriteColour e x y = some 0 := by
  induction sel with
  | nil => exact ⟨fun _ e he => absurd he List.not_mem_nil, fun _ => rfl⟩
  | cons e rest ih =>
    rw [List.forall_mem_cons]
    rcases p.transparent_or_opaque e x y with h | ⟨c, h, hc⟩
    · rw [Ppu.winner_cons_of_transparent rest h, ih, and_iff_right h]
    · have hsome : p.winner x y (e :: rest) ≠ none := by
        rw [Ppu.winner_cons_of_opaque rest h hc]
        cases p.winner x y rest with
        | none => exact Option.some_ne_none _
        | some w => dsimp only [Option.elim]; split <;> exact Option.some_ne_none _
      have hopaque : ¬ (p.spriteColour e x y = none ∨ p.spriteColour e x y = some 0) := by
        rw [h]
        rintro (h0 | h0)
        · exact Option.some_ne_none _ h0
        · exact hc (Option.some.inj h0)
      exact ⟨fun hnone => absurd hnone hsome, fun hall => absurd hall.1 hopaque⟩

theorem Ppu.winner_wins {p : Ppu} {x y : Nat} {sel : List Sprite} {e : Sprite} {c : BitVec 2} (h : p.winner x y sel = some (e, c)) :
    p.Wins x y sel e c := by
  induction sel generalizing e c with
  | nil => cases h
  | cons d rest ih =>
    rcases p.transparent_or_opaque d x y with hd | ⟨cd, hd, hcd⟩
    · rw [Ppu.winner_cons_of_transparent rest hd] at h
      exact (ih h).cons (hd.imp_right Or.inl)
    · rw [Ppu.winner_cons_of_opaque rest hd hcd] at h
      cases hrest : p.winner x y rest with
      | none =>
        rw [hrest] at h
        obtain ⟨rfl, rfl⟩ := Prod.mk.inj (Option.some.inj h)
        have hclear := (p.winner_eq_none_iff x y rest).mp hrest
        exact ⟨hcd, hd, [], rest, rfl, fun _ he => absurd he List.not_mem_nil, fun e' he => (hclear e' he).imp_right Or.inl⟩
      | some w =>
        rw [hrest, Option.elim] at h
        by_cases hlt : w.1.x < d.x
        · rw [if_pos hlt] at h
          obtain rfl := Option.some.inj h
          exact (ih hrest).cons (.inr (.inr hlt))
        · rw [if_neg hlt] at h
          obtain ⟨rfl, rfl⟩ := Prod.mk.inj (Option.some.inj h)
          exact (ih hrest).head hcd hd (Nat.le_of_not_lt hlt)

/-! The row (R401, R404). -/

theorem Ppu.selectSprites_eq (p : Ppu) (y : Nat) :
    p.selectSprites y =
      if p.lcdc.getLsbD 1 then
        (((List.range 40).map p.sprite).filter fun e =>
          decide (e.y ≤ y + 16 ∧ y + 16 < e.y + (if p.lcdc.getLsbD 2 then 16 else 8))).take 10
      else [] := by
  have hcovers : ∀ e : Sprite, (decide (e.y ≤ y + 16) && decide (y + 16 < e.y + p.spriteHeight)) =
      decide (e.y ≤ y + 16 ∧ y + 16 < e.y + (if p.lcdc.getLsbD 2 then 16 else 8)) := fun e => (Bool.decide_and ..).symm
  rw [Ppu.selectSprites, funext hcovers]

/-- Rendering a line changes its row of the work frame alone. -/
theorem Ppu.renderLine_work (p : Ppu) {y y' : Nat} (hy' : y' < 144) :
    (p.renderLine y).work[y'] = if y = y' then p.row y else p.work[y'] := Vector.getElem_setIfInBounds hy'

theorem Ppu.getElem_row (p : Ppu) (y : Nat) {x : Nat} (hx : x < 160) : (p.row y)[x] = p.pixel (p.selectSprites y) x y :=
  Vector.getElem_ofFn hx

/-- A pixel's shade in numbers, given the number of the colour behind the sprites. -/
theorem Ppu.pixel_toNat (p : Ppu) (sel : List Sprite) (x y : Nat) {c back : Nat} (hc : c = (p.backColour x y).toNat)
    (hback : back = if p.lcdc.getLsbD 0 = false then 0 else p.bgp.toNat / 4 ^ c % 4) :
    (p.pixel sel x y).toNat =
      (p.winner x y sel).elim back fun w =>
        if w.1.attr.getLsbD 7 = true ∧ c ≠ 0 then back else (if w.1.attr.getLsbD 4 then p.obp1 else p.obp0).toNat / 4 ^ w.2.toNat % 4 := by
  have hshade : (if p.lcdc.getLsbD 0 then paletteShade p.bgp (p.backColour x y) else 0).toNat = back := by
    rw [hback, hc]
    cases p.lcdc.getLsbD 0
    · rfl
    · exact paletteShade_toNat _ _
  rw [Ppu.pixel]
  cases p.winner x y sel with
  | none => exact hshade
  | some w =>
    have hbehind : (w.1.attr.getLsbD 7 && decide (p.backColour x y ≠ 0)) = true ↔ w.1.attr.getLsbD 7 = true ∧ c ≠ 0 := by
      rw [Bool.and_eq_true, decide_eq_true_iff, hc, ne_eq, ne_eq, toNat_eq_zero_iff]
    dsimp only [Option.elim]
    by_cases h : w.1.attr.getLsbD 7 = true ∧ c ≠ 0
    · rw [if_pos h, if_pos (hbehind.mpr h)]
      exact hshade
    · rw [if_neg h, if_neg (mt hbehind.mp h)]
      exact paletteShade_toNat _ _

/-- Settles O54: the sprites' and the map's colours by their bytes, the winner by its specification, and the row pixel by pixel. -/
theorem lineRendering : Obligations.LineRendering := by
  intro p tileAddr dot mapColour htile hdot hmap
  obtain rfl : tileAddr = p.tileAddr := funext fun n => (htile n).trans (p.tileAddr_eq n).symm
  have hcolour : ∀ a c, dot a c = (p.colourAt a (7 - c)).toNat := fun a c => (hdot a c).trans (toNat_ofBool_append_ofBool _ _).symm
  have hmapColour : ∀ second col row, mapColour second col row = (p.mapColour (mapBase second) col row).toNat := fun second col row =>
    (hmap second col row).trans (hcolour _ _)
  refine ⟨fun i _ => ⟨rfl, rfl, rfl, rfl⟩, fun e x y h r t hh htop hbottom hr ht => ?sprite,
    fun x y sel => ⟨p.winner_eq_none_iff x y sel, fun e c h => p.winner_wins h⟩, fun y hy win sel covers hwin hcovers hsel => ?line⟩
  case sprite =>
    obtain rfl : h = p.spriteHeight := hh
    obtain rfl : r = p.spriteRow e y := hr
    obtain rfl : t = p.spriteTile e (p.spriteRow e y) := by rw [ht, Ppu.spriteTile, toNat_and_0xFE]
    have hcover : e.x ≤ x + 8 ∧ x < e.x ↔ e.x ≤ x + 8 ∧ x + 8 < e.x + 8 := by omega
    simp only [Ppu.spriteColour, hcover]
    by_cases hx : e.x ≤ x + 8 ∧ x + 8 < e.x + 8
    · have hbit : (if e.attr.getLsbD 5 then x + 8 - e.x else 7 - (x + 8 - e.x)) =
          7 - (if e.attr.getLsbD 5 then 7 - (x + 8 - e.x) else x + 8 - e.x) := by
        split <;> omega
      rw [if_pos hx, if_pos hx, hcolour, hbit]
      rfl
    · rw [if_neg hx, if_neg hx]
      rfl
  case line =>
    obtain rfl : win = p.windowActive y := hwin
    obtain rfl : sel = p.selectSprites y := by rw [hsel, hcovers, p.selectSprites_eq]
    refine ⟨?frame, fun y' hy' hne => ?others, fun x hx c back hc hback => ?pixel⟩
    case frame =>
      have hcount : (if p.windowActive y then p.windowLine + 1 else p.windowLine) = p.windowLine + (p.windowActive y).toNat := by
        cases p.windowActive y <;> rfl
      rw [Ppu.renderLine, hcount]
    case others => rw [p.renderLine_work hy', if_neg hne.symm]
    case pixel =>
      have hbackColour : c = (p.backColour x y).toNat := by
        rw [hc, hmapColour, hmapColour, Ppu.backColour]
        cases p.lcdc.getLsbD 0 with
        | false => rfl
        | true =>
          simp only [Bool.and_eq_true, decide_eq_true_eq, Bool.true_eq_false, if_false, if_true]
          split <;> rfl
      rw [p.renderLine_work hy, if_pos rfl, p.getElem_row y hx, p.pixel_toNat _ x y hbackColour hback]
      cases p.winner x y (p.selectSprites y) <;> rfl

end Sys2Proof.Machine
end

section
/-! SUPPORT and PROOF of O14. The cartridge of a load, the calls on a running machine, and a run cut in two. -/

namespace Sys2Proof.Machine

/-! Every call keeps the invariant. -/

theorem initialRam_ok (size : Nat) (save : Option (List Byte)) : (initialRam size save).Ok size := by
  cases save with
  | none => exact Memory.Ok.nil size
  | some blob =>
    rw [initialRam]
    split
    · next h => exact Memory.Ok.ofBytes blob size h.le
    · exact Memory.Ok.nil size

theorem imageCartridge_ok (rom : List Byte) (save : Option (List Byte)) : (imageCartridge rom save).Ok :=
  ⟨Memory.Ok.ofBytes _ _ (List.length_take_le _ rom), initialRam_ok _ save, by show Mbc.reset.romBankLo ≠ 0; decide⟩

theorem loadCartridge_inv {cfg : Config} (hcfg : cfg.wellFormed = true) (hw : Memory.Ok cfg.initWram 0x2000)
    (hh : Memory.Ok cfg.initHram 127) {rom : List Byte} {save : Option (List Byte)} {t : State} (h : loadCartridge cfg rom save = .ok t) :
    t.Inv := by
  obtain rfl := loadCartridge_eq h
  exact State.Inv.powerOn hcfg (imageCartridge_ok rom save) hw hh

theorem State.Inv.takeFrame {s : State} (h : s.Inv) : s.takeFrame.2.Inv :=
  h.setPpu (h.ppu.congr rfl rfl rfl rfl rfl rfl rfl rfl h.ppu.vram h.ppu.oam)

theorem State.Inv.drainSamples {s : State} (h : s.Inv) : s.drainSamples.2.Inv := by
  obtain ⟨fsCounter, sampleCounter, sweepTimer, ch1, ch2, ch3, ch4, off⟩ := h.apu
  exact h.setApu ⟨fsCounter, sampleCounter, sweepTimer, ch1, ch2, ch3, ch4, off⟩

theorem State.Inv.setJoypad {s : State} (h : s.Inv) (mask : Byte) : (s.setJoypad mask).Inv :=
  ⟨h.cfg, h.cpu.congr h.cpu.flags rfl rfl rfl, h.timer, Joypad.Ok.latch _, h.ppu, h.apu, h.cart, h.wram, h.hram⟩

theorem State.Inv.hostStep {s : State} (h : s.Inv) {t : State} (ht : s.hostStep.2 = some t) : t.Inv := by
  rcases s.hostStep_state with hsame | ⟨u, hu, hnext⟩
  · obtain rfl := Option.some.inj (hsame.symm.trans ht)
    exact h
  · obtain rfl := Option.some.inj (hnext.symm.trans ht)
    exact stepKeepsTheInvariant s u h hu

/-- The block holds no machine, or one in the invariant. -/
def BlockInv (block : Option State) : Prop := ∀ s, block = some s → s.Inv

theorem BlockInv.none : BlockInv .none := fun _ h => nomatch h

theorem BlockInv.some {s : State} (h : s.Inv) : BlockInv (.some s) := fun _ ht => Option.some.inj ht ▸ h

section
variable {cfg : Config} (hcfg : cfg.wellFormed = true) (hw : Memory.Ok cfg.initWram 0x2000) (hh : Memory.Ok cfg.initHram 127)
include hcfg hw hh

theorem BlockInv.hostLoad {block : Option State} (h : BlockInv block) (rom : List Byte) (save : Option (List Byte)) :
    BlockInv (hostLoad cfg block rom save).2 := by
  cases hload : loadCartridge cfg rom save with
  | ok t =>
    rw [hostLoad_ok block hload]
    exact BlockInv.some (loadCartridge_inv hcfg hw hh hload)
  | error e =>
    rw [hostLoad_error block hload]
    exact h

theorem BlockInv.hostCall {block : Option State} (call : HostCall) (h : BlockInv block) : BlockInv (hostCall cfg block call).2 := by
  cases block with
  | none =>
    cases call with
    | loadCartridge rom save => exact BlockInv.none.hostLoad hcfg hw hh rom save
    | _ => exact BlockInv.none
  | some s =>
    have hs : s.Inv := h s rfl
    cases call with
    | loadCartridge rom save => exact h.hostLoad hcfg hw hh rom save
    | step => exact fun t ht => hs.hostStep ht
    | frameReady => exact BlockInv.some hs.takeFrame
    | audioSamples => exact BlockInv.some hs.drainSamples
    | setJoypadState mask => exact BlockInv.some (hs.setJoypad mask)
    | saveRam => exact h

end

/-! What a call and a run answer (70_reset R500, log entry 17). -/

theorem hostCall_load (cfg : Config) (block : Option State) (rom : List Byte) (save : Option (List Byte)) :
    hostCall cfg block (.loadCartridge rom save) = hostLoad cfg block rom save := by
  cases block <;> rfl

/-- Before the first successful load only a load is defined. -/
theorem hostCall_none {cfg : Config} {call : HostCall} (h : ∀ rom save, call ≠ .loadCartridge rom save) :
    hostCall cfg none call = (.noMachine, none) := by
  cases call with
  | loadCartridge rom save => exact absurd rfl (h rom save)
  | _ => rfl

/-- A run whose first part is not ended is that part followed by the rest. -/
theorem runHost_append {cfg : Config} {block : Option State} {before : List HostCall} (after : List HostCall)
    (h : ∀ a ∈ (runHost cfg block before).1, a.ends = false) :
    runHost cfg block (before ++ after) =
      ((runHost cfg block before).1 ++ (runHost cfg (runHost cfg block before).2 after).1,
       (runHost cfg (runHost cfg block before).2 after).2) := by
  induction before generalizing block with
  | nil => rfl
  | cons call calls ih =>
    cases hends : (hostCall cfg block call).1.ends with
    | true =>
      rw [runHost_stop calls hends] at h
      exact absurd (hends.symm.trans (h _ List.mem_cons_self)) (by decide)
    | false =>
      rw [runHost_next calls hends] at h ⊢
      rw [List.cons_append, runHost_next _ hends, ih fun a ha => h a (List.mem_cons_of_mem _ ha)]
      rfl

/-- Settles O14: each call by its equation, the runs by induction over the calls. -/
theorem hostCallsKeepTheInvariant : Obligations.HostCallsKeepTheInvariant := by
  refine ⟨fun cfg rom save t hcfg hw hh h => loadCartridge_inv hcfg hw hh h,
    fun s mask h => ⟨h.takeFrame, h.drainSamples, h.setJoypad mask⟩, fun cfg block calls t hcfg hw hh hblock => ?run,
    fun cfg block rom save => ⟨fun t h => ?loaded, fun e h => ?invalid⟩, fun cfg s t h => s.hostStep_next h,
    fun cfg s mask => ⟨rfl, rfl, rfl, rfl⟩, fun cfg call h => hostCall_none h, fun cfg block middle before after answers h hrun => ?append⟩
  case run => exact runHost_keeps (P := BlockInv) (fun _ call h => h.hostCall hcfg hw hh call) block calls hblock t
  case loaded => exact (hostCall_load cfg block rom save).trans (hostLoad_ok block h)
  case invalid => exact (hostCall_load cfg block rom save).trans (hostLoad_error block h)
  case append =>
    obtain ⟨rfl, rfl⟩ : (runHost cfg block before).1 = answers ∧ (runHost cfg block before).2 = middle := by rw [h]; exact ⟨rfl, rfl⟩
    exact runHost_append after hrun

end Sys2Proof.Machine
end
